-- ==== Sys2Proof/Word.lean ====
section
/-! DEFINITION. The two word types of the AVE core: 8-bit registers and bus data, 16-bit addresses and
register pairs (00_scope.md R4 `REG_WIDTH`, `ADDR_WIDTH`; R5). -/

namespace Sys2Proof

/-- An 8-bit value: `A` to `L`, `F`, one bus transfer (R4 `REG_WIDTH`). -/
abbrev Byte := BitVec 8

/-- A 16-bit value: `PC`, `SP`, the pairs, a bus address (R4 `ADDR_WIDTH`). -/
abbrev Word := BitVec 16

end Sys2Proof
end

