-- ==== Sys2Proof/Machine/Fields.lean ====
section
/-! DEFINITION. The operand fields of an opcode as types, and their reading from bits (10_state.md R24;
30_encoding.md R105, R107, R108). -/

namespace Sys2Proof

/-- The 3-bit operand `r` (R24): seven registers and `(HL)`, the memory byte at `HL`. -/
inductive Operand8 where
  | b | c | d | e | h | l
  /-- index 6, `(HL)`: a bus access, not a register -/
  | atHL
  | a
deriving DecidableEq, Repr

/-- The register-pair field `rp` (R105). -/
inductive Pair where
  | bc | de | hl | sp
deriving DecidableEq, Repr

/-- The register-pair field `rp2` of PUSH and POP (R105). -/
inductive PairAF where
  | bc | de | hl | af
deriving DecidableEq, Repr

/-- The condition field `cc` (R105): `Z = 0`, `Z = 1`, `Cf = 0`, `Cf = 1`. -/
inductive Cond where
  | nz | z | nc | c
deriving DecidableEq, Repr

/-- The operation field of the ALU block (R107). -/
inductive AluOp where
  | add | adc | sub | sbc | and | xor | or | cp
deriving DecidableEq, Repr

/-- The eight rotate and shift variants of CB group 0 (R108). -/
inductive RotOp where
  | rlc | rrc | rl | rr | sla | sra | swap | srl
deriving DecidableEq, Repr

/-- R24: 0=B, 1=C, 2=D, 3=E, 4=H, 5=L, 6=(HL), 7=A. -/
def Operand8.ofBits (v : BitVec 3) : Operand8 :=
  match v.toNat with
  | 0 => .b
  | 1 => .c
  | 2 => .d
  | 3 => .e
  | 4 => .h
  | 5 => .l
  | 6 => .atHL
  | _ => .a

/-- R105 `rp`: 0=BC, 1=DE, 2=HL, 3=SP. -/
def Pair.ofBits (v : BitVec 2) : Pair :=
  match v.toNat with
  | 0 => .bc
  | 1 => .de
  | 2 => .hl
  | _ => .sp

/-- R105 `rp2`: 0=BC, 1=DE, 2=HL, 3=AF. -/
def PairAF.ofBits (v : BitVec 2) : PairAF :=
  match v.toNat with
  | 0 => .bc
  | 1 => .de
  | 2 => .hl
  | _ => .af

/-- R105 `cc`: 0=NZ, 1=Z, 2=NC, 3=C. -/
def Cond.ofBits (v : BitVec 2) : Cond :=
  match v.toNat with
  | 0 => .nz
  | 1 => .z
  | 2 => .nc
  | _ => .c

/-- R107: 0=ADD, 1=ADC, 2=SUB, 3=SBC, 4=AND, 5=XOR, 6=OR, 7=CP. -/
def AluOp.ofBits (v : BitVec 3) : AluOp :=
  match v.toNat with
  | 0 => .add
  | 1 => .adc
  | 2 => .sub
  | 3 => .sbc
  | 4 => .and
  | 5 => .xor
  | 6 => .or
  | _ => .cp

/-- R108: 0=RLC, 1=RRC, 2=RL, 3=RR, 4=SLA, 5=SRA, 6=SWAP, 7=SRL. -/
def RotOp.ofBits (v : BitVec 3) : RotOp :=
  match v.toNat with
  | 0 => .rlc
  | 1 => .rrc
  | 2 => .rl
  | 3 => .rr
  | 4 => .sla
  | 5 => .sra
  | 6 => .swap
  | _ => .srl

end Sys2Proof
end

