-- ==== Sys2Proof/Machine/Bits.lean ====
section
/-! DEFINITION. Halves, pairs, sign extension and the signed reading of an immediate (00_scope.md R5, R6;
30_encoding.md R103, R104). -/

namespace Sys2Proof

/-- R5 `hi8(w) = w[15:8]`. -/
def hi8 (w : Word) : Byte := w.extractLsb' 8 8

/-- R5 `lo8(w) = w[7:0]`. -/
def lo8 (w : Word) : Byte := w.extractLsb' 0 8

/-- R5 `{h, l} = h * 256 + l`. -/
def join (h l : Byte) : Word := h ++ l

/-- R6 `sext_16(v)`: the 16-bit value with the same two's-complement meaning. -/
def sext16 (v : Byte) : Word := v.signExtend 16

/-- R103: the reading `e` of byte 1 as a signed number, -128 to 127. -/
def signedOffset (b1 : Byte) : Int := b1.toInt

/-- R103: the byte `b1` whose signed reading is `e`. -/
def offsetByte (e : Int) : Byte := BitVec.ofInt 8 e

/-- The high-page address `0xFF00 + n` of LDH and LD (C) (40_load8.md R141, R143). -/
def highPage (n : Byte) : Word := join 0xFF n

/-- The low nibble `v[3:0]` as a number. -/
def lowNibble (v : Byte) : Nat := v.toNat % 16

/-- The bit `v[0]` of a truth value, as the carry in of R181 and R182. -/
def bitNat (b : Bool) : Nat := if b then 1 else 0

end Sys2Proof
end

