-- ==== Sys2Proof/Config.lean ====
section
/-! DEFINITION. What the spec leaves OPEN (00_scope.md R4): uninterpreted constants, with no body, so that nothing
proved about the model can rest on a value of theirs. The values enter the machine at reset only (Machine/Params.lean,
Machine/State.lean); the interface functions of a supplied collaborator (20_memory.md R70, R72) are called by the bus. -/

namespace Sys2Proof

/-- The storage elements a byte of memory can live in: the work RAM, the sprite-attribute block and the I/O block of
the core (R35 to R37), the image and the RAM of the reference cartridge (R71), the memory of the reference display
(R73). -/
inductive Store where
  | wram
  | oam
  | io
  | rom
  | cram
  | vram
deriving DecidableEq, Repr

/-- R4 `ENHANCED`, OPEN: the colour-capable mode. -/
opaque Config.enhanced : Bool

/-- R4 `N_DIV - 1`, OPEN: one less than the base number of steps per divider tick, so that every value `>= 1` of
`N_DIV` and no other is possible. -/
opaque Config.nDivLess1 : Nat

/-- R4 `N_TIMA[k] - 1`, OPEN, for the rate selection `k` of the timer-control register. -/
opaque Config.nTimaLess1 : Nat → Nat

/-- R4 `N_LINE - 1`, OPEN. -/
opaque Config.nLineLess1 : Nat

/-- FREE VALUE (notes/assumptions/1.md): the byte that index `i` of a storage element holds before anything is written
there. For `Store.io` it is the OPEN parameter `IO_RESET[i]` (R4, R45, U9); for the memories it is the value U8 calls
"any value: a read before a write returns a byte no proof may choose". -/
opaque Config.unwritten : Store → Nat → Byte

/-! ### The collaborators (R4 `Cartridge`, `Display`, `IoHandler`: OPEN with a reference instance)

Those of `Cartridge` and `Display` stand here, those of `IoHandler`, which are functions over the core state (R74), in
Machine/Collaborators.lean. -/

/-- Which instance of a collaborator the machine has: the reference instance the spec writes out, or the one supplied
from outside, of which nothing but its contract is known. -/
inductive Collaborator where
  | reference
  | supplied
deriving DecidableEq, Repr, Inhabited

/-- The instance of each collaborator, OPEN. -/
opaque Config.cartridgeInstance : Collaborator
opaque Config.displayInstance : Collaborator
opaque Config.ioHandlerInstance : Collaborator

/-- `CartState`, `DispState`: a collaborator's own state (10_state.md R40), abstract to the core and held as a block of
bytes of any length (notes/assumptions/31.md). -/
abbrev CollabState := List Byte

/-- The supplied cartridge (R70): its state after its own reset (10_state.md R45), and the functions of its contract. -/
opaque Config.Cartridge.reset : CollabState
opaque Config.Cartridge.read : CollabState → Word → Byte
opaque Config.Cartridge.write : CollabState → Word → Byte → CollabState
opaque Config.Cartridge.debugWrite : CollabState → Word → Byte → CollabState
opaque Config.Cartridge.periodicUpdate : CollabState → CollabState

/-- The supplied display (R72), by 13-bit offset: its state after its own reset, and the functions of its contract. -/
opaque Config.Display.reset : CollabState
opaque Config.Display.read : CollabState → BitVec 13 → Byte
opaque Config.Display.write : CollabState → BitVec 13 → Byte → CollabState

end Sys2Proof
end

