-- ==== Sys2Proof/Machine/Memory.lean ====
section
/-! DEFINITION. Memory as a list of (index, byte) cells in one canonical form: indices strictly rising. A listed cell
has been written; an unlisted one has not, and what it reads as is the ONE definition `readCell` below
(20_memory.md R62, R63; notes/assumptions/1.md, notes/assumptions/2.md). -/

namespace Sys2Proof.Machine

/-- The written cells of one storage element, lowest index first. -/
abbrev Memory := List Host.Cell

/-- The byte written last at index `i`, if any was. -/
def memGet : Memory → Nat → Option Byte
  | [], _ => none
  | (j, w) :: m, i => if i = j then some w else memGet m i

/-- Write `v` at index `i`, keeping the indices in rising order. -/
def memSet : Memory → Nat → Byte → Memory
  | [], i, v => [(i, v)]
  | (j, w) :: m, i, v =>
    if i < j then (i, v) :: (j, w) :: m
    else if i = j then (i, v) :: m
    else (j, w) :: memSet m i v

/-- What index `i` of a storage element reads as: the byte written last, or the free byte of a cell that nothing has
written (R45 "unspecified", U8, U9). -/
def readCell (st : Store) (m : Memory) (i : Nat) : Byte := (memGet m i).getD (Config.unwritten st i)

/-- All indices are at least `lo`, rise strictly, and lie below `size`. -/
def memWfFrom (size lo : Nat) : Memory → Bool
  | [] => true
  | (j, _) :: m => decide (lo ≤ j) && decide (j < size) && memWfFrom size (j + 1) m

/-- The canonical form of a storage element of `size` bytes. -/
def memWf (size : Nat) (m : Memory) : Bool := memWfFrom size 0 m

end Sys2Proof.Machine
end

