-- ==== Sys2Proof/Machine/Params.lean ====
section
/-! DEFINITION. The parameters of 00_scope.md R4 as one record of plain data, held in the state as straps that no step
changes, and their values at reset: the OPEN ones uninterpreted, the CHOSEN ones as the spec chose them. -/

namespace Sys2Proof.Machine

/-- R4, less `IO_RESET` (`Config.unwritten`) and `Audio`, whose whole interface is one output event (60_exceptions.md
R337, R346). -/
structure Params where
  /-- `ENHANCED` -/
  enhanced : Bool
  /-- `N_DIV` -/
  nDiv : Nat
  /-- `N_TIMA[0]` -/
  nTima0 : Nat
  /-- `N_TIMA[1]` -/
  nTima1 : Nat
  /-- `N_TIMA[2]` -/
  nTima2 : Nat
  /-- `N_TIMA[3]` -/
  nTima3 : Nat
  /-- `N_LINE` -/
  nLine : Nat
  /-- `VISIBLE_LINES` -/
  visibleLines : Nat
  /-- `LAST_LINE` -/
  lastLine : Nat
  /-- `RETI_DELAYED` -/
  retiDelayed : Bool
  /-- the instance of `Cartridge` (R70, R71) -/
  cartridge : Collaborator
  /-- the instance of `Display` (R72, R73) -/
  display : Collaborator
  /-- the instance of `IoHandler` (R74 to R79) -/
  ioHandler : Collaborator
deriving DecidableEq, Repr

/-- `N_TIMA[k]` for the 2-bit rate selection (R33). -/
def Params.nTima (p : Params) (k : BitVec 2) : Nat :=
  match k.toNat with
  | 0 => p.nTima0
  | 1 => p.nTima1
  | 2 => p.nTima2
  | _ => p.nTima3

/-- The parameters a run starts with: `ENHANCED`, the cadence numbers and the collaborators OPEN, each number at least 1;
`VISIBLE_LINES = 144`, `LAST_LINE = 153`, `RETI_DELAYED = true` (R4). -/
def resetParams : Params where
  enhanced := Config.enhanced
  nDiv := Config.nDivLess1 + 1
  nTima0 := Config.nTimaLess1 0 + 1
  nTima1 := Config.nTimaLess1 1 + 1
  nTima2 := Config.nTimaLess1 2 + 1
  nTima3 := Config.nTimaLess1 3 + 1
  nLine := Config.nLineLess1 + 1
  visibleLines := 144
  lastLine := 153
  retiDelayed := true
  cartridge := Config.cartridgeInstance
  display := Config.displayInstance
  ioHandler := Config.ioHandlerInstance

end Sys2Proof.Machine
end

