-- ==== Sys2Proof/Machine/State.lean ====
section
/-! DEFINITION. The state of the AVE core (10_state.md), its outcomes, and the state after reset (R45, R360 to R363). -/

namespace Sys2Proof.Machine

/-- The one-shot enable delay (10_state.md R29), "exactly three values". -/
inductive ImeDelay where
  /-- -1: inactive -/
  | inactive
  /-- 0: an enabling instruction was dispatched in the previous step; `IME` is set at this step's boundary -/
  | expiring
  /-- 1: an enabling instruction was dispatched in the current step -/
  | armed
deriving DecidableEq, Repr

/-- The events of the output trace (60_exceptions.md R346). -/
inductive Event where
  /-- `Diagnostic(unknown_opcode, opcode, pc)` (46_system.md R275) -/
  | unknownOpcode (opcode : Byte) (pc : Word)
  /-- `Diagnostic(decode_anomaly, addr)` (20_memory.md R68): produced only by an access with a wider address type -/
  | decodeAnomaly (addr : Nat)
  /-- `NotifyScanline(line)` (R335, R336) -/
  | notifyScanline (line : Nat)
  /-- `NotifyAudioFrame` (R337) -/
  | notifyAudioFrame
deriving DecidableEq, Repr

/-- The whole architectural state. -/
structure State where
  /-- accumulator, operand index 7 (R20) -/
  a : Byte
  b : Byte
  c : Byte
  d : Byte
  e : Byte
  /-- `HL[15:8]` (R21) -/
  h : Byte
  /-- `HL[7:0]` (R21) -/
  l : Byte
  /-- the flag byte: Z, N, Hf, Cf in bits 7 to 4, zero below (R26) -/
  f : Byte
  /-- stack pointer (R25) -/
  sp : Word
  /-- program counter (R27) -/
  pc : Word
  /-- `IME`, the master enable (R28) -/
  ime : Bool
  /-- `ime_delay` (R29) -/
  imeDelay : ImeDelay
  /-- set by HALT (R30) -/
  halted : Bool
  /-- `instr_count`, unbounded (R32) -/
  instrCount : Nat
  /-- `timer_enabled` (R33) -/
  timerEnabled : Bool
  /-- `tima_rate` (R33) -/
  timaRate : BitVec 2
  /-- `double_speed`, set by the host only (R34) -/
  doubleSpeed : Bool
  /-- `io[0x04]`, the divider (R38) -/
  div : Byte
  /-- `io[0x05]`, the timer counter (R38) -/
  tima : Byte
  /-- `io[0x06]`, the timer modulo (R38) -/
  tma : Byte
  /-- `io[0x07]`, the timer control (R38) -/
  tac : Byte
  /-- `IF = io[0x0F]`, the pending classes (R39) -/
  ifReg : Byte
  /-- `io[0x40]`, display control, plain storage (R38) -/
  lcdc : Byte
  /-- `io[0x41]`, display status (R38) -/
  stat : Byte
  /-- `io[0x44]`, the current scanline (R38) -/
  ly : Byte
  /-- `io[0x45]`, the scanline comparator (R38) -/
  lyc : Byte
  /-- `IE = io[0xFF]`, the enabled classes (R39) -/
  ieReg : Byte
  /-- the other 246 bytes of the I/O block (R37) -/
  io : Memory
  /-- main working memory, 32768 bytes (R35) -/
  wram : Memory
  /-- the bank selector, 1 to 7 (R35) -/
  wramBank : BitVec 3
  /-- the sprite-attribute block (R36) -/
  oam : Memory
  /-- the reference cartridge's read-only image (R71) -/
  rom : Memory
  /-- the reference cartridge's RAM (R71) -/
  cram : Memory
  /-- the reference display's memory (R73) -/
  vram : Memory
  /-- `CartState` of a supplied cartridge (R40, R70) -/
  cartState : CollabState
  /-- `DispState` of a supplied display (R40, R72) -/
  dispState : CollabState
  /-- host inputs that a supplied I/O handler's reads may depend on, such as the input register (R74) -/
  ioInput : CollabState
  /-- the output trace, in order of production (R346) -/
  events : List Event
  /-- host input: the "done-flag" of the render thread (R41, R338) -/
  frameComposed : Bool
  /-- the core is held in the end-of-frame wait (R338) -/
  frameHold : Bool
  /-- host input, observed between steps (R41, R304) -/
  terminate : Bool
  /-- the parameters of R4; no step changes them -/
  params : Params
deriving DecidableEq, Repr

/-- The machine stops with a fault: it never does. 00_scope.md R7: "There is no fault outcome and no refusal in the
hardware"; 60_exceptions.md R300: "The core raises no synchronous exception". No constructor, so nobody raises one. -/
inductive Fault where
deriving DecidableEq, Repr

/-- Why a step is refused. -/
inductive Refusal where
  /-- Raised only by an arm of `exec` whose instruction has no meaning yet; every instruction has one, so nobody raises
  it. Safe: the machine would stop where the hardware goes on. -/
  | notModelled (mnemonic : String)
deriving DecidableEq, Repr

/-- What a meaning and a step answer. -/
abbrev Result := Host.Outcome State Fault Refusal

/-- `reset()` (10_state.md R45; 70_reset_and_hazards.md R360) for the parameters `p` and the cartridge image `rom`:
every element at its reset value, all at once, with no bus access and no event. A supplied collaborator's state is
"whatever their own reset gives". -/
def State.resetWith (p : Params) (rom : Memory) : State where
  a := if p.enhanced then 0x11 else 0x01
  b := 0x00
  c := 0x13
  d := 0x00
  e := 0xD8
  h := 0x01
  l := 0x4D
  f := 0xB0
  sp := 0xFFFE
  pc := 0x0100
  ime := false
  imeDelay := .inactive
  halted := false
  instrCount := 0
  timerEnabled := (Config.unwritten .io 0x07).getLsbD 2
  timaRate := (Config.unwritten .io 0x07).extractLsb' 0 2
  doubleSpeed := false
  div := Config.unwritten .io 0x04
  tima := Config.unwritten .io 0x05
  tma := Config.unwritten .io 0x06
  tac := Config.unwritten .io 0x07
  ifReg := Config.unwritten .io 0x0F
  lcdc := Config.unwritten .io 0x40
  stat := Config.unwritten .io 0x41
  ly := Config.unwritten .io 0x44
  lyc := Config.unwritten .io 0x45
  ieReg := Config.unwritten .io 0xFF
  io := []
  wram := []
  wramBank := 1
  oam := []
  rom := rom
  cram := []
  vram := []
  cartState := Config.Cartridge.reset
  dispState := Config.Display.reset
  ioInput := []
  events := []
  frameComposed := true
  frameHold := false
  terminate := false
  params := p

/-- The machine right after reset, with the OPEN parameters uninterpreted and no cartridge image written. -/
def State.reset : State := State.resetWith resetParams []

end Sys2Proof.Machine
end

