-- ==== Sys2Proof/Machine/Collaborators.lean ====
section
/-! DEFINITION. The OPEN parameter `IoHandler` (00_scope.md R4, 20_memory.md R74) as uninterpreted functions over the core
state, with no body. What a write may do is plain data, an `IoEffect`, which has room for what R74 permits and for nothing
else; Machine/Ops.lean applies it. -/

namespace Sys2Proof

/-- What a supplied handler's `ioWrite` does (R74: it "may change `io`, `wram_bank`, `timer_enabled`, `tima_rate`, and
through a block copy `oam`, `wram` and the display's memory"): the bytes it stores, in order, by index. -/
structure IoEffect where
  /-- stores to `io`, by offset -/
  io : List (Byte × Byte)
  /-- the timer's enable flag after a write of the timer-control register (10_state.md R33) -/
  timerEnabled : Bool
  /-- the timer's rate after a write of the timer-control register (10_state.md R33) -/
  timaRate : BitVec 2
  /-- `wram_bank - 1` after the write, so that every bank 1 to 7 and no other is possible (10_state.md R35) -/
  bankLess1 : Fin 7
  /-- stores to `oam`, by index -/
  oam : List (Byte × Byte)
  /-- stores to `wram`, by index -/
  wram : List (BitVec 15 × Byte)
  /-- writes to the display's memory, by offset -/
  display : List (BitVec 13 × Byte)
deriving DecidableEq, Repr, Inhabited

/-- `IoHandler.ioRead : CoreState -> offset8 -> byte` (R74): "It may depend on any part of the state and on host inputs".
The bus gives it what the rules let it see (`handlerView` in Machine/Ops.lean). -/
opaque Config.IoHandler.read : Machine.State → Byte → Byte

/-- `IoHandler.ioWrite : CoreState -> offset8 -> byte -> CoreState` (R74), as its effect, from the same view. -/
opaque Config.IoHandler.write : Machine.State → Byte → Byte → IoEffect

end Sys2Proof
end

