-- ==== Sys2Proof/Machine/Ops.lean ====
section
/-! DEFINITION. The named operations over registers, the I/O block, the memory bus with its three collaborators, the
stack, the fetch, and the one shared operation that takes an interrupt with the return from one beside it
(10_state.md, 20_memory.md, 60_exceptions.md). -/

namespace Sys2Proof.Machine

/-! ### Register pairs (R21 to R23) -/

def State.bc (s : State) : Word := join s.b s.c
def State.de (s : State) : Word := join s.d s.e
def State.hl (s : State) : Word := join s.h s.l
def State.af (s : State) : Word := join s.a s.f

def setBC (w : Word) (s : State) : State := { s with b := hi8 w, c := lo8 w }
def setDE (w : Word) (s : State) : State := { s with d := hi8 w, e := lo8 w }
def setHL (w : Word) (s : State) : State := { s with h := hi8 w, l := lo8 w }
def setSP (w : Word) (s : State) : State := { s with sp := w }

/-- R23: `AF <- w` is `A <- hi8(w)`, `F <- lo8(w) & 0xF0`. -/
def setAF (w : Word) (s : State) : State := { s with a := hi8 w, f := lo8 w &&& 0xF0 }

/-- `PC <- w`. -/
def setPC (w : Word) (s : State) : State := { s with pc := w }

/-- `PC <- PC +16 length` (R27). -/
def advance (length : Nat) (s : State) : State := { s with pc := s.pc + BitVec.ofNat 16 length }

/-- Append an event to the output trace (R346). -/
def emit (ev : Event) (s : State) : State := { s with events := s.events ++ [ev] }

/-! ### The I/O block as its 256 bytes (R37, R38) -/

/-- `io[o]`. -/
def ioGet (o : Byte) (s : State) : Byte :=
  if o = 0x04 then s.div
  else if o = 0x05 then s.tima
  else if o = 0x06 then s.tma
  else if o = 0x07 then s.tac
  else if o = 0x0F then s.ifReg
  else if o = 0x40 then s.lcdc
  else if o = 0x41 then s.stat
  else if o = 0x44 then s.ly
  else if o = 0x45 then s.lyc
  else if o = 0xFF then s.ieReg
  else readCell .io s.io o.toNat

/-- The offsets of the ten bytes that have a field of their own (R38). -/
def isNamedOffset (o : Byte) : Bool :=
  o = 0x04 || o = 0x05 || o = 0x06 || o = 0x07 || o = 0x0F || o = 0x40 || o = 0x41 || o = 0x44 || o = 0x45 || o = 0xFF

/-- `io[o] <- v`, a direct access without the handler's side effects (R90). -/
def ioSet (o v : Byte) (s : State) : State :=
  { s with
    div := if o = 0x04 then v else s.div
    tima := if o = 0x05 then v else s.tima
    tma := if o = 0x06 then v else s.tma
    tac := if o = 0x07 then v else s.tac
    ifReg := if o = 0x0F then v else s.ifReg
    lcdc := if o = 0x40 then v else s.lcdc
    stat := if o = 0x41 then v else s.stat
    ly := if o = 0x44 then v else s.ly
    lyc := if o = 0x45 then v else s.lyc
    ieReg := if o = 0xFF then v else s.ieReg
    io := if isNamedOffset o then s.io else memSet s.io o.toNat v }

/-! ### The cartridge (R69 to R71, R320) -/

/-- `Cartridge.read`: the supplied cartridge's, or of the reference cartridge (R71) the image and the RAM. -/
def cartRead (a : Word) (s : State) : Byte :=
  match s.params.cartridge with
  | .supplied => Config.Cartridge.read s.cartState a
  | .reference => if a ≤ 0x7FFF then readCell .rom s.rom a.toNat else readCell .cram s.cram (a - 0xA000).toNat

/-- `Cartridge.write`: the supplied cartridge's, on its own state alone (R70), or of the reference cartridge (R71) a
store to its RAM, ignored in the ROM window. -/
def cartWrite (a : Word) (v : Byte) (s : State) : State :=
  { s with
    cram :=
      if s.params.cartridge = .supplied ∨ a ≤ 0x7FFF then s.cram else memSet s.cram (a - 0xA000).toNat v
    cartState :=
      if s.params.cartridge = .supplied then Config.Cartridge.write s.cartState a v else s.cartState }

/-- The raw store of a byte of the reference cartridge, image or RAM. -/
def cartStore (a : Word) (v : Byte) (s : State) : State :=
  { s with
    rom := if a ≤ 0x7FFF then memSet s.rom a.toNat v else s.rom
    cram := if a ≤ 0x7FFF then s.cram else memSet s.cram (a - 0xA000).toNat v }

/-- `Cartridge.debugWrite` (R69, R70): the raw poke, reachable from the host only. -/
def cartDebugWrite (a : Word) (v : Byte) (s : State) : State :=
  match s.params.cartridge with
  | .supplied => { s with cartState := Config.Cartridge.debugWrite s.cartState a v }
  | .reference => cartStore a v s

/-- `Cartridge.periodicUpdate` (R70, R320): of the reference cartridge (R71) the identity. -/
def cartPeriodicUpdate (s : State) : State :=
  { s with
    cartState :=
      if s.params.cartridge = .supplied then Config.Cartridge.periodicUpdate s.cartState else s.cartState }

/-! ### The display (R72, R73) -/

/-- The 13-bit offset of the display's interface (R72). -/
def displayOffset (o : Word) : BitVec 13 := o.extractLsb' 0 13

/-- `Display.read`, by `vram` offset: the supplied display's, or of the reference display the byte stored. -/
def displayRead (o : Word) (s : State) : Byte :=
  match s.params.display with
  | .supplied => Config.Display.read s.dispState (displayOffset o)
  | .reference => readCell .vram s.vram o.toNat

/-- `Display.write`, by `vram` offset: the supplied display's, on its own state alone, or of the reference display a
store. -/
def displayWrite (o : Word) (v : Byte) (s : State) : State :=
  { s with
    vram := if s.params.display = .supplied then s.vram else memSet s.vram o.toNat v
    dispState :=
      if s.params.display = .supplied then Config.Display.write s.dispState (displayOffset o) v else s.dispState }

/-! ### The I/O handler (R74 to R79) -/

/-- The pending byte IF and the enable byte IE, which every handler stores and returns as written (R74). -/
def isInterruptOffset (o : Byte) : Bool := o = 0x0F || o = 0xFF

/-- The state a supplied handler's functions see: all of it (R74 "any part of the state") but what other rules keep from
every bus access: the output trace (60_exceptions.md R346 "no rule reads them"), `terminate` and `frame_composed`
(10_state.md R41 "no instruction reads them") with the frame wait, the instruction counter (R32 "read only by the three
cadence tests", R339 "not readable"), and `IME` (R28 "no bus address reads or writes it"). -/
def handlerView (s : State) : State :=
  { s with
    events := []
    terminate := false
    frameComposed := false
    frameHold := false
    instrCount := 0
    ime := false }

/-- `IoHandler.ioRead`: at the two bytes whose storage R74 requires of every handler, the byte stored; elsewhere the
supplied handler's answer, or of the reference handler (R75) the byte stored. -/
def ioRead (o : Byte) (s : State) : Byte :=
  if isInterruptOffset o then ioGet o s
  else
    match s.params.ioHandler with
    | .supplied => Config.IoHandler.read (handlerView s) o
    | .reference => ioGet o s

/-- The bank a write of `v` to the bank register selects (R78): the low three bits, 1 for 0. -/
def bankOf (v : Byte) : BitVec 3 :=
  if v.extractLsb' 0 3 = 0 then 1 else v.extractLsb' 0 3

/-- The byte the reference handler stores: a write to the scanline or the divider register resets it to zero (R76). -/
def ioStored (o v : Byte) : Byte := if o = 0x44 ∨ o = 0x04 then 0 else v

/-- `IoHandler.ioWrite` of the reference handler (R75 to R78): the byte, and for the timer control (0x07) the enable flag
and the rate, and for the bank register (0x70) of an ENHANCED core the bank. -/
def referenceIoWrite (o v : Byte) (s : State) : State :=
  { ioSet o (ioStored o v) s with
    timerEnabled := if o = 0x07 then v.getLsbD 2 else s.timerEnabled
    timaRate := if o = 0x07 then v.extractLsb' 0 2 else s.timaRate
    wramBank := if o = 0x70 then (if s.params.enhanced then bankOf v else s.wramBank) else s.wramBank }

/-- A handler's stores to the I/O block, in order. -/
def ioSetAll (stores : List (Byte × Byte)) (s : State) : State := stores.foldl (fun t c => ioSet c.1 c.2 t) s

/-- A handler's block copy into the display's memory, in order (R74). -/
def displayWriteAll (stores : List (BitVec 13 × Byte)) (s : State) : State :=
  stores.foldl (fun t c => displayWrite (c.1.setWidth 16) c.2 t) s

/-- A handler's block copy into `oam` or `wram`, in order (R74). -/
def memSetAll {w : Nat} (stores : List (BitVec w × Byte)) (m : Memory) : Memory :=
  stores.foldl (fun t c => memSet t c.1.toNat c.2) m

/-- What a supplied handler's write to offset `o` does to the core (R74): its stores, the timer settings where `o` is the
timer-control register, since they are written only then (10_state.md R33), and the bank of an ENHANCED core (R35). -/
def applyIoEffect (o : Byte) (e : IoEffect) (s : State) : State :=
  let t := ioSetAll e.io s
  let d := displayWriteAll e.display s
  { s with
    div := t.div
    tima := t.tima
    tma := t.tma
    tac := t.tac
    ifReg := t.ifReg
    lcdc := t.lcdc
    stat := t.stat
    ly := t.ly
    lyc := t.lyc
    ieReg := t.ieReg
    io := t.io
    vram := d.vram
    dispState := d.dispState
    timerEnabled := if o = 0x07 then e.timerEnabled else s.timerEnabled
    timaRate := if o = 0x07 then e.timaRate else s.timaRate
    wramBank := if s.params.enhanced then BitVec.ofNat 3 (e.bankLess1.val + 1) else s.wramBank
    oam := memSetAll e.oam s.oam
    wram := memSetAll e.wram s.wram }

/-- `IoHandler.ioWrite` of the supplied handler: "a write of `v` to offset 0x0F or 0xFF stores `v` there" whatever else
the handler does (R74). -/
def suppliedIoWrite (o v : Byte) (s : State) : State :=
  let t := applyIoEffect o (Config.IoHandler.write (handlerView s) o v) s
  { t with
    ifReg := if o = 0x0F then v else t.ifReg
    ieReg := if o = 0xFF then v else t.ieReg }

/-- `IoHandler.ioWrite` (R74). -/
def ioWrite (o v : Byte) (s : State) : State :=
  match s.params.ioHandler with
  | .supplied => suppliedIoWrite o v s
  | .reference => referenceIoWrite o v s

/-! ### The bus (R61 to R68) -/

/-- The eight rows of the address map (R61). -/
inductive Region where
  | cartRom | display | cartRam | wramLow | wramBanked | mirror | oam | io
deriving DecidableEq, Repr

/-- The row an address belongs to: "every 16-bit address maps to exactly one handler" (R61; C9). -/
def regionOf (a : Word) : Region :=
  if a ≤ 0x7FFF then .cartRom
  else if a ≤ 0x9FFF then .display
  else if a ≤ 0xBFFF then .cartRam
  else if a ≤ 0xCFFF then .wramLow
  else if a ≤ 0xDFFF then .wramBanked
  else if a ≤ 0xFDFF then .mirror
  else if a ≤ 0xFEFF then .oam
  else .io

/-- R62 d, e: the index in `wram` of an address 0xC000 to 0xDFFF. -/
def wramIndex (bank : BitVec 3) (a : Word) : Nat :=
  if a ≤ 0xCFFF then (a - 0xC000).toNat
  else (a - 0xD000).toNat + bank.toNat * 4096

/-- R62 d, e. -/
def wramRead (a : Word) (s : State) : Byte := readCell .wram s.wram (wramIndex s.wramBank a)

/-- R63 d, e. -/
def wramWrite (a : Word) (v : Byte) (s : State) : State :=
  { s with wram := memSet s.wram (wramIndex s.wramBank a) v }

/-- `MemRead(a, 1)` (R62). -/
def busRead (a : Word) (s : State) : Byte :=
  match regionOf a with
  | .cartRom => cartRead a s
  | .display => displayRead (a - 0x8000) s
  | .cartRam => cartRead a s
  | .wramLow => wramRead a s
  | .wramBanked => wramRead a s
  | .mirror => wramRead (a - 0x2000) s
  | .oam => readCell .oam s.oam (a - 0xFE00).toNat
  | .io => ioRead (lo8 a) s

/-- `MemWrite(a, 1, v)` (R63). -/
def busWrite (a : Word) (v : Byte) (s : State) : State :=
  match regionOf a with
  | .cartRom => cartWrite a v s
  | .display => displayWrite (a - 0x8000) v s
  | .cartRam => cartWrite a v s
  | .wramLow => wramWrite a v s
  | .wramBanked => wramWrite a v s
  | .mirror => wramWrite (a - 0x2000) v s
  | .oam => { s with oam := memSet s.oam (a - 0xFE00).toNat v }
  | .io => ioWrite (lo8 a) v s

/-- The machine with the reference instance of the collaborator that serves the region, if one does. -/
def useReference (r : Region) (s : State) : State :=
  { s with
    params :=
      { s.params with
        cartridge := if r = .cartRom ∨ r = .cartRam then .reference else s.params.cartridge
        display := if r = .display then .reference else s.params.display
        ioHandler := if r = .io then .reference else s.params.ioHandler } }

/-- The raw store of a byte in the storage behind an address, without a handler's side effects. -/
def rawStore (a : Word) (v : Byte) (s : State) : State :=
  match regionOf a with
  | .cartRom => cartStore a v s
  | .display => { s with vram := memSet s.vram (a - 0x8000).toNat v }
  | .cartRam => cartStore a v s
  | .wramLow => wramWrite a v s
  | .wramBanked => wramWrite a v s
  | .mirror => wramWrite (a - 0x2000) v s
  | .oam => { s with oam := memSet s.oam (a - 0xFE00).toNat v }
  | .io => ioSet (lo8 a) v s

/-- A byte put where the bus reads it, from outside the machine: how a program comes into it (Step.lean's
`withFetchWord`). The collaborator that serves the address is its reference instance, whose storage the model holds. -/
def poke (a : Word) (v : Byte) (s : State) : State := rawStore a v (useReference (regionOf a) s)

/-- R68: a read with a wider address type; outside the map it answers 0xFF and logs. -/
def busReadWide (a : Nat) (s : State) : Byte × State :=
  if a < 65536 then (busRead (BitVec.ofNat 16 a) s, s) else (0xFF, emit (.decodeAnomaly a) s)

/-- R68: a write with a wider address type; outside the map it is dropped and logged. -/
def busWriteWide (a : Nat) (v : Byte) (s : State) : State :=
  if a < 65536 then busWrite (BitVec.ofNat 16 a) v s else emit (.decodeAnomaly a) s

/-- `MemWrite(a, 2, w)` (R81): the low byte to `a`, then the high byte to `a +16 1`. -/
def busWrite16 (a w : Word) (s : State) : State := busWrite (a + 1) (hi8 w) (busWrite a (lo8 w) s)

/-- `MemRead(a, 2)` (R81). -/
def busRead16 (a : Word) (s : State) : Word := join (busRead (a + 1) s) (busRead a s)

/-! ### The stack (R82) -/

/-- `Push(w)` (R82): the high byte to `SP-1`, the low byte to `SP-2`, then `SP <- SP-2`. -/
def push (w : Word) (s : State) : State :=
  setSP (s.sp - 2) (busWrite (s.sp - 2) (lo8 w) (busWrite (s.sp - 1) (hi8 w) s))

/-- The word `Pop()` returns (R82). -/
def popped (s : State) : Word := busRead16 s.sp s

/-- What `Pop()` does to the state (R82): `SP <- SP+2`. -/
def dropStack (s : State) : State := setSP (s.sp + 2) s

/-! ### Fetch (R101) -/

/-- Byte `k` of the three that a step fetches at `PC`. -/
def fetchByte (k : Nat) (s : State) : Byte := busRead (s.pc + BitVec.ofNat 16 k) s

/-! ### Interrupts: classes, raising, service and return (R308 to R315, R260) -/

/-- The five classes in priority order (R39). -/
inductive IntClass where
  | verticalBlank | displayStatus | timer | serial | input
deriving DecidableEq, Repr

/-- The bit of a class in IF and IE (R39). -/
def IntClass.bit : IntClass → Nat
  | .verticalBlank => 0
  | .displayStatus => 1
  | .timer => 2
  | .serial => 3
  | .input => 4

/-- The mask of a class (R39). -/
def IntClass.mask (k : IntClass) : Byte := 1 <<< k.bit

/-- The vector of a class (R39, R312): `0x0040 + 8 * bit`. -/
def IntClass.vector (k : IntClass) : Word := 0x0040 + BitVec.ofNat 16 (8 * k.bit)

/-- `triggerInterrupt(class)` (R308). -/
def triggerInterrupt (k : IntClass) (s : State) : State := { s with ifReg := s.ifReg ||| k.mask }

/-- `triggerInterruptIfEnabled(class)` (R308). -/
def triggerInterruptIfEnabled (k : IntClass) (s : State) : State :=
  { s with ifReg := if s.ieReg &&& k.mask ≠ 0 then s.ifReg ||| k.mask else s.ifReg }

/-- `IF & IE & 0x1F` (R309, R310; D11: bits 7 to 5 are ignored). -/
def pending (s : State) : Byte := s.ifReg &&& s.ieReg &&& 0x1F

/-- The first class in priority order whose bit is set (R311). -/
def firstClass (p : Byte) : Option IntClass :=
  if p.getLsbD 0 then some .verticalBlank
  else if p.getLsbD 1 then some .displayStatus
  else if p.getLsbD 2 then some .timer
  else if p.getLsbD 3 then some .serial
  else if p.getLsbD 4 then some .input
  else none

/-- Taking an interrupt (R312): push `PC`, clear `IME`, clear the one pending bit, go to the vector. Nothing else is
saved and `ime_delay` stays. -/
def serviceInterrupt (k : IntClass) (s : State) : State :=
  let s1 := push s.pc s
  { s1 with ime := false, ifReg := s1.ifReg &&& ~~~ k.mask, pc := k.vector }

/-- Return from interrupt (45_control.md R260): pop `PC`, then arm the delay as EI does, or enable at once, as
`RETI_DELAYED` says. -/
def returnFromInterrupt (s : State) : State :=
  { setPC (popped s) (dropStack s) with
    ime := if s.params.retiDelayed then s.ime else true
    imeDelay := if s.params.retiDelayed then .armed else .inactive }

end Sys2Proof.Machine
end

