-- ==== Sys2Proof/Machine/Flags.lean ====
section
/-! DEFINITION. The flag byte (10_state.md R26) and every flag computation of the instruction files: the carries and
borrows of the 8-bit and 16-bit operations (42_alu8.md R181, R182; 43_alu16.md R210; 41_load16_stack.md R163), the
increments (R193, R195), DAA (R197), and the rotates and shifts (44_rotate_shift_bit.md R220 to R231). -/

namespace Sys2Proof.Machine

/-- Flag `Z`. -/
def State.zf (s : State) : Bool := s.f.getLsbD 7
/-- Flag `N`. -/
def State.nf (s : State) : Bool := s.f.getLsbD 6
/-- Flag `Hf`. -/
def State.hf (s : State) : Bool := s.f.getLsbD 5
/-- Flag `Cf`. -/
def State.cf (s : State) : Bool := s.f.getLsbD 4

/-- The flag byte with the given flags and a zero low nibble (R26). -/
def packFlags (z n h c : Bool) : Byte :=
  (if z then 0x80 else 0) ||| (if n then 0x40 else 0) ||| (if h then 0x20 else 0) ||| (if c then 0x10 else 0)

/-- `flags <- (z, n, h, c)`, where `none` is the spec's `-`, "unchanged" (00_scope.md R6). Every flag write leaves
`F[3:0] = 0` (42_alu8.md R192). -/
def setFlags (z n h c : Option Bool) (s : State) : State :=
  { s with f := packFlags (z.getD s.zf) (n.getD s.nf) (h.getD s.hf) (c.getD s.cf) }

/-- An 8-bit result with its zero test, half carry and carry. -/
structure Alu8 where
  res : Byte
  z : Bool
  h : Bool
  c : Bool
deriving DecidableEq, Repr

/-- `add8(a, v, cin)` (R181), computed with unbounded integers. -/
def add8 (a v : Byte) (cin : Bool) : Alu8 :=
  let sum := a.toNat + v.toNat + bitNat cin
  let res := BitVec.ofNat 8 sum
  { res := res
    z := decide (res = 0)
    h := decide (lowNibble a + lowNibble v + bitNat cin > 0x0F)
    c := decide (sum > 0xFF) }

/-- `sub8(a, v, cin)` (R182), computed with unbounded integers; the carries hold the borrow. -/
def sub8 (a v : Byte) (cin : Bool) : Alu8 :=
  let diff : Int := (a.toNat : Int) - (v.toNat : Int) - (bitNat cin : Int)
  let res := BitVec.ofInt 8 diff
  { res := res
    z := decide (res = 0)
    h := decide (lowNibble a < lowNibble v + bitNat cin)
    c := decide (a.toNat < v.toNat + bitNat cin) }

/-- Carry out of bit 11 of a 16-bit sum (R210 line 1). -/
def half16 (x w : Word) : Bool := decide (x.toNat % 4096 + w.toNat % 4096 > 0x0FFF)

/-- Carry out of bit 15 of a 16-bit sum (R210 line 2). -/
def carry16 (x w : Word) : Bool := decide (x.toNat + w.toNat > 0xFFFF)

/-- Carry out of bit 3 of the low byte of SP plus the byte `n` (R163 line 1, R213 line 1). -/
def halfSP (sp : Word) (n : Byte) : Bool := decide (lowNibble (lo8 sp) + lowNibble n > 0x0F)

/-- Carry out of bit 7 of the low byte of SP plus the byte `n` (R163 line 2, R213 line 2). -/
def carrySP (sp : Word) (n : Byte) : Bool := decide ((lo8 sp).toNat + n.toNat > 0xFF)

/-- The correction and the carry out of DAA (R197 lines 1 to 8). -/
def daaCorrection (a : Byte) (n h c : Bool) : Byte × Bool :=
  if n then
    ((if h then 0x06 else 0) ||| (if c then 0x60 else 0), c)
  else
    ((if h || decide (lowNibble a > 9) then 0x06 else 0) ||| (if c || decide (a.toNat > 0x99) then 0x60 else 0),
      c || decide (a.toNat > 0x99))

/-- The result of a rotate, shift or SWAP and the carry it leaves. -/
structure Shifted where
  new : Byte
  c : Bool
deriving DecidableEq, Repr

/-- `{old[6:0], in}`: one position left, `b` coming in at bit 0. -/
def shiftLeftIn (old : Byte) (b : Bool) : Byte := (old <<< 1) ||| (if b then 0x01 else 0)

/-- `{in, old[7:1]}`: one position right, `b` coming in at bit 7. -/
def shiftRightIn (old : Byte) (b : Bool) : Byte := (old >>> 1) ||| (if b then 0x80 else 0)

/-- RLCA, RLC (R220, R224). -/
def rotLeftCircular (old : Byte) : Shifted := ⟨shiftLeftIn old (old.getLsbD 7), old.getLsbD 7⟩
/-- RRCA, RRC (R221, R225). -/
def rotRightCircular (old : Byte) : Shifted := ⟨shiftRightIn old (old.getLsbD 0), old.getLsbD 0⟩
/-- RLA, RL (R222, R226). -/
def rotLeftCarry (old : Byte) (c : Bool) : Shifted := ⟨shiftLeftIn old c, old.getLsbD 7⟩
/-- RRA, RR (R223, R227). -/
def rotRightCarry (old : Byte) (c : Bool) : Shifted := ⟨shiftRightIn old c, old.getLsbD 0⟩
/-- SLA (R228). -/
def shiftLeftArith (old : Byte) : Shifted := ⟨shiftLeftIn old false, old.getLsbD 7⟩
/-- SRA (R229): bit 7 is kept. -/
def shiftRightArith (old : Byte) : Shifted := ⟨shiftRightIn old (old.getLsbD 7), old.getLsbD 0⟩
/-- SWAP (R230). -/
def swapNibbles (old : Byte) : Shifted := ⟨(old <<< 4) ||| (old >>> 4), false⟩
/-- SRL (R231). -/
def shiftRightLogical (old : Byte) : Shifted := ⟨shiftRightIn old false, old.getLsbD 0⟩

end Sys2Proof.Machine
end

