-- ==== Sys2Proof/Machine/Operands.lean ====
section
/-! DEFINITION. Every operand form: the 3-bit operand with its bus access at index 6 (10_state.md R24), the register
pairs (30_encoding.md R105), the condition codes (45_control.md R255). -/

namespace Sys2Proof.Machine

/-- `r8[i]` (R24). -/
def readR8 (r : Operand8) (s : State) : Byte :=
  match r with
  | .b => s.b
  | .c => s.c
  | .d => s.d
  | .e => s.e
  | .h => s.h
  | .l => s.l
  | .atHL => busRead s.hl s
  | .a => s.a

/-- `r8[i] <- v` (R24). -/
def writeR8 (r : Operand8) (v : Byte) (s : State) : State :=
  match r with
  | .b => { s with b := v }
  | .c => { s with c := v }
  | .d => { s with d := v }
  | .e => { s with e := v }
  | .h => { s with h := v }
  | .l => { s with l := v }
  | .atHL => busWrite s.hl v s
  | .a => { s with a := v }

/-- `rp[p]` (R105). -/
def readPair (p : Pair) (s : State) : Word :=
  match p with
  | .bc => s.bc
  | .de => s.de
  | .hl => s.hl
  | .sp => s.sp

/-- `rp[p] <- w` (R105). -/
def writePair (p : Pair) (w : Word) (s : State) : State :=
  match p with
  | .bc => setBC w s
  | .de => setDE w s
  | .hl => setHL w s
  | .sp => setSP w s

/-- `rp2[p]` (R105). -/
def readPairAF (p : PairAF) (s : State) : Word :=
  match p with
  | .bc => s.bc
  | .de => s.de
  | .hl => s.hl
  | .af => s.af

/-- `rp2[p] <- w` (R105; R23 for AF). -/
def writePairAF (p : PairAF) (w : Word) (s : State) : State :=
  match p with
  | .bc => setBC w s
  | .de => setDE w s
  | .hl => setHL w s
  | .af => setAF w s

/-- `cond(cc)` (R255 b). -/
def cond (cc : Cond) (s : State) : Bool :=
  match cc with
  | .nz => !s.zf
  | .z => s.zf
  | .nc => !s.cf
  | .c => s.cf

end Sys2Proof.Machine
end

