-- ==== Sys2Proof/Machine/Alu16.lean ====
section
/-! DEFINITION. 16-bit arithmetic (43_alu16.md R210 to R214). -/

namespace Sys2Proof.Machine

/-- `ADD HL,rp` (R210): carries out of bits 11 and 15, `Z` unchanged. -/
def addHL (p : Pair) (s : State) : Result :=
  let w := readPair p s
  .next (advance 1 (setFlags none (some false) (some (half16 s.hl w)) (some (carry16 s.hl w)) (setHL (s.hl + w) s)))

/-- `INC rp` (R211). -/
def increment16 (p : Pair) (s : State) : Result := .next (advance 1 (writePair p (readPair p s + 1) s))

/-- `DEC rp` (R212). -/
def decrement16 (p : Pair) (s : State) : Result := .next (advance 1 (writePair p (readPair p s - 1) s))

/-- `ADD SP,e` (R213): the flags of LD HL,SP+e. -/
def addSPOffset (e : Int) (s : State) : Result :=
  let n := offsetByte e
  .next (advance 2
    (setFlags (some false) (some false) (some (halfSP s.sp n)) (some (carrySP s.sp n)) (setSP (s.sp + sext16 n) s)))

/-! ### One meaning per instruction -/

/-- `INC BC` (R211). -/
def execIncBC (s : State) : Result := increment16 .bc s
/-- `ADD HL,BC` (R210). -/
def execAddHLBC (s : State) : Result := addHL .bc s
/-- `DEC BC` (R212). -/
def execDecBC (s : State) : Result := decrement16 .bc s
/-- `INC DE` (R211). -/
def execIncDE (s : State) : Result := increment16 .de s
/-- `ADD HL,DE` (R210). -/
def execAddHLDE (s : State) : Result := addHL .de s
/-- `DEC DE` (R212). -/
def execDecDE (s : State) : Result := decrement16 .de s
/-- `INC HL` (R211). -/
def execIncHL (s : State) : Result := increment16 .hl s
/-- `ADD HL,HL` (R210). -/
def execAddHLHL (s : State) : Result := addHL .hl s
/-- `DEC HL` (R212). -/
def execDecHL (s : State) : Result := decrement16 .hl s
/-- `INC SP` (R211). -/
def execIncSP (s : State) : Result := increment16 .sp s
/-- `ADD HL,SP` (R210). -/
def execAddHLSP (s : State) : Result := addHL .sp s
/-- `DEC SP` (R212). -/
def execDecSP (s : State) : Result := decrement16 .sp s
/-- `ADD SP,e` (R213). -/
def execAddSPE (e : Int) (s : State) : Result := addSPOffset e s

end Sys2Proof.Machine
end

