-- ==== Sys2Proof/Machine/Alu8.lean ====
section
/-! DEFINITION. 8-bit arithmetic and logic (42_alu8.md R180 to R200). -/

namespace Sys2Proof.Machine

/-- The flags of an ALU result, with `N` as given (R183 to R186, R190). -/
def arithFlags (r : Alu8) (n : Bool) (s : State) : State :=
  setFlags (some r.z) (some n) (some r.h) (some r.c) s

/-- `A <- res; flags <- (res == 0, 0, h, 0)` of the logical operations (R187 to R189). -/
def logicResult (res : Byte) (h : Bool) (s : State) : State :=
  setFlags (some (decide (res = 0))) (some false) (some h) (some false) { s with a := res }

/-- The eight ALU operations on `A` and `v` (R183 to R190). -/
def aluApply (op : AluOp) (v : Byte) (s : State) : State :=
  match op with
  | .add => arithFlags (add8 s.a v false) false { s with a := (add8 s.a v false).res }
  | .adc => arithFlags (add8 s.a v s.cf) false { s with a := (add8 s.a v s.cf).res }
  | .sub => arithFlags (sub8 s.a v false) true { s with a := (sub8 s.a v false).res }
  | .sbc => arithFlags (sub8 s.a v s.cf) true { s with a := (sub8 s.a v s.cf).res }
  | .and => logicResult (s.a &&& v) true s
  | .xor => logicResult (s.a ^^^ v) false s
  | .or => logicResult (s.a ||| v) false s
  | .cp => arithFlags (sub8 s.a v false) true s

/-- The register and `(HL)` forms, length 1 (R180). -/
def aluOperand (op : AluOp) (r : Operand8) (s : State) : Result := .next (advance 1 (aluApply op (readR8 r s) s))

/-- The immediate forms, length 2 (R180). -/
def aluImmediate (op : AluOp) (n : Byte) (s : State) : Result := .next (advance 2 (aluApply op n s))

/-- `INC r`, `INC (HL)` (R193, R194). -/
def increment8 (dst : Operand8) (s : State) : Result :=
  let old := readR8 dst s
  .next (advance 1
    (setFlags (some (decide (old + 1 = 0))) (some false) (some (decide (lowNibble old = 0x0F))) none
      (writeR8 dst (old + 1) s)))

/-- `DEC r`, `DEC (HL)` (R195, R196). -/
def decrement8 (dst : Operand8) (s : State) : Result :=
  let old := readR8 dst s
  .next (advance 1
    (setFlags (some (decide (old - 1 = 0))) (some true) (some (decide (lowNibble old = 0x00))) none
      (writeR8 dst (old - 1) s)))

/-- `DAA` (R197): add or subtract the BCD correction. -/
def decimalAdjust (s : State) : Result :=
  let k := daaCorrection s.a s.nf s.hf s.cf
  let res := if s.nf then s.a - k.1 else s.a + k.1
  .next (advance 1 (setFlags (some (decide (res = 0))) none (some false) (some k.2) { s with a := res }))

/-- `CPL` (R198). -/
def complementA (s : State) : Result :=
  .next (advance 1 (setFlags none (some true) (some true) none { s with a := s.a ^^^ 0xFF }))

/-- `SCF` (R199). -/
def setCarry (s : State) : Result := .next (advance 1 (setFlags none (some false) (some false) (some true) s))

/-- `CCF` (R200). -/
def complementCarry (s : State) : Result :=
  .next (advance 1 (setFlags none (some false) (some false) (some (!s.cf)) s))

/-! ### One meaning per instruction -/

/-- `INC B` (R193). -/
def execIncB (s : State) : Result := increment8 .b s
/-- `DEC B` (R195). -/
def execDecB (s : State) : Result := decrement8 .b s
/-- `INC C` (R193). -/
def execIncC (s : State) : Result := increment8 .c s
/-- `DEC C` (R195). -/
def execDecC (s : State) : Result := decrement8 .c s
/-- `INC D` (R193). -/
def execIncD (s : State) : Result := increment8 .d s
/-- `DEC D` (R195). -/
def execDecD (s : State) : Result := decrement8 .d s
/-- `INC E` (R193). -/
def execIncE (s : State) : Result := increment8 .e s
/-- `DEC E` (R195). -/
def execDecE (s : State) : Result := decrement8 .e s
/-- `INC H` (R193). -/
def execIncH (s : State) : Result := increment8 .h s
/-- `DEC H` (R195). -/
def execDecH (s : State) : Result := decrement8 .h s
/-- `DAA` (R197). -/
def execDaa (s : State) : Result := decimalAdjust s
/-- `INC L` (R193). -/
def execIncL (s : State) : Result := increment8 .l s
/-- `DEC L` (R195). -/
def execDecL (s : State) : Result := decrement8 .l s
/-- `CPL` (R198). -/
def execCpl (s : State) : Result := complementA s
/-- `INC (HL)` (R194). -/
def execIncAtHL (s : State) : Result := increment8 .atHL s
/-- `DEC (HL)` (R196). -/
def execDecAtHL (s : State) : Result := decrement8 .atHL s
/-- `SCF` (R199). -/
def execScf (s : State) : Result := setCarry s
/-- `INC A` (R193). -/
def execIncA (s : State) : Result := increment8 .a s
/-- `DEC A` (R195). -/
def execDecA (s : State) : Result := decrement8 .a s
/-- `CCF` (R200). -/
def execCcf (s : State) : Result := complementCarry s
/-- `ADD A,B` (R183). -/
def execAddAB (s : State) : Result := aluOperand .add .b s
/-- `ADD A,C` (R183). -/
def execAddAC (s : State) : Result := aluOperand .add .c s
/-- `ADD A,D` (R183). -/
def execAddAD (s : State) : Result := aluOperand .add .d s
/-- `ADD A,E` (R183). -/
def execAddAE (s : State) : Result := aluOperand .add .e s
/-- `ADD A,H` (R183). -/
def execAddAH (s : State) : Result := aluOperand .add .h s
/-- `ADD A,L` (R183). -/
def execAddAL (s : State) : Result := aluOperand .add .l s
/-- `ADD A,(HL)` (R183). -/
def execAddAAtHL (s : State) : Result := aluOperand .add .atHL s
/-- `ADD A,A` (R183). -/
def execAddAA (s : State) : Result := aluOperand .add .a s
/-- `ADC A,B` (R184). -/
def execAdcAB (s : State) : Result := aluOperand .adc .b s
/-- `ADC A,C` (R184). -/
def execAdcAC (s : State) : Result := aluOperand .adc .c s
/-- `ADC A,D` (R184). -/
def execAdcAD (s : State) : Result := aluOperand .adc .d s
/-- `ADC A,E` (R184). -/
def execAdcAE (s : State) : Result := aluOperand .adc .e s
/-- `ADC A,H` (R184). -/
def execAdcAH (s : State) : Result := aluOperand .adc .h s
/-- `ADC A,L` (R184). -/
def execAdcAL (s : State) : Result := aluOperand .adc .l s
/-- `ADC A,(HL)` (R184). -/
def execAdcAAtHL (s : State) : Result := aluOperand .adc .atHL s
/-- `ADC A,A` (R184). -/
def execAdcAA (s : State) : Result := aluOperand .adc .a s
/-- `SUB B` (R185). -/
def execSubB (s : State) : Result := aluOperand .sub .b s
/-- `SUB C` (R185). -/
def execSubC (s : State) : Result := aluOperand .sub .c s
/-- `SUB D` (R185). -/
def execSubD (s : State) : Result := aluOperand .sub .d s
/-- `SUB E` (R185). -/
def execSubE (s : State) : Result := aluOperand .sub .e s
/-- `SUB H` (R185). -/
def execSubH (s : State) : Result := aluOperand .sub .h s
/-- `SUB L` (R185). -/
def execSubL (s : State) : Result := aluOperand .sub .l s
/-- `SUB (HL)` (R185). -/
def execSubAtHL (s : State) : Result := aluOperand .sub .atHL s
/-- `SUB A` (R185). -/
def execSubA (s : State) : Result := aluOperand .sub .a s
/-- `SBC A,B` (R186). -/
def execSbcAB (s : State) : Result := aluOperand .sbc .b s
/-- `SBC A,C` (R186). -/
def execSbcAC (s : State) : Result := aluOperand .sbc .c s
/-- `SBC A,D` (R186). -/
def execSbcAD (s : State) : Result := aluOperand .sbc .d s
/-- `SBC A,E` (R186). -/
def execSbcAE (s : State) : Result := aluOperand .sbc .e s
/-- `SBC A,H` (R186). -/
def execSbcAH (s : State) : Result := aluOperand .sbc .h s
/-- `SBC A,L` (R186). -/
def execSbcAL (s : State) : Result := aluOperand .sbc .l s
/-- `SBC A,(HL)` (R186). -/
def execSbcAAtHL (s : State) : Result := aluOperand .sbc .atHL s
/-- `SBC A,A` (R186). -/
def execSbcAA (s : State) : Result := aluOperand .sbc .a s
/-- `AND B` (R187). -/
def execAndB (s : State) : Result := aluOperand .and .b s
/-- `AND C` (R187). -/
def execAndC (s : State) : Result := aluOperand .and .c s
/-- `AND D` (R187). -/
def execAndD (s : State) : Result := aluOperand .and .d s
/-- `AND E` (R187). -/
def execAndE (s : State) : Result := aluOperand .and .e s
/-- `AND H` (R187). -/
def execAndH (s : State) : Result := aluOperand .and .h s
/-- `AND L` (R187). -/
def execAndL (s : State) : Result := aluOperand .and .l s
/-- `AND (HL)` (R187). -/
def execAndAtHL (s : State) : Result := aluOperand .and .atHL s
/-- `AND A` (R187). -/
def execAndA (s : State) : Result := aluOperand .and .a s
/-- `XOR B` (R188). -/
def execXorB (s : State) : Result := aluOperand .xor .b s
/-- `XOR C` (R188). -/
def execXorC (s : State) : Result := aluOperand .xor .c s
/-- `XOR D` (R188). -/
def execXorD (s : State) : Result := aluOperand .xor .d s
/-- `XOR E` (R188). -/
def execXorE (s : State) : Result := aluOperand .xor .e s
/-- `XOR H` (R188). -/
def execXorH (s : State) : Result := aluOperand .xor .h s
/-- `XOR L` (R188). -/
def execXorL (s : State) : Result := aluOperand .xor .l s
/-- `XOR (HL)` (R188). -/
def execXorAtHL (s : State) : Result := aluOperand .xor .atHL s
/-- `XOR A` (R188). -/
def execXorA (s : State) : Result := aluOperand .xor .a s
/-- `OR B` (R189). -/
def execOrB (s : State) : Result := aluOperand .or .b s
/-- `OR C` (R189). -/
def execOrC (s : State) : Result := aluOperand .or .c s
/-- `OR D` (R189). -/
def execOrD (s : State) : Result := aluOperand .or .d s
/-- `OR E` (R189). -/
def execOrE (s : State) : Result := aluOperand .or .e s
/-- `OR H` (R189). -/
def execOrH (s : State) : Result := aluOperand .or .h s
/-- `OR L` (R189). -/
def execOrL (s : State) : Result := aluOperand .or .l s
/-- `OR (HL)` (R189). -/
def execOrAtHL (s : State) : Result := aluOperand .or .atHL s
/-- `OR A` (R189). -/
def execOrA (s : State) : Result := aluOperand .or .a s
/-- `CP B` (R190). -/
def execCpB (s : State) : Result := aluOperand .cp .b s
/-- `CP C` (R190). -/
def execCpC (s : State) : Result := aluOperand .cp .c s
/-- `CP D` (R190). -/
def execCpD (s : State) : Result := aluOperand .cp .d s
/-- `CP E` (R190). -/
def execCpE (s : State) : Result := aluOperand .cp .e s
/-- `CP H` (R190). -/
def execCpH (s : State) : Result := aluOperand .cp .h s
/-- `CP L` (R190). -/
def execCpL (s : State) : Result := aluOperand .cp .l s
/-- `CP (HL)` (R190). -/
def execCpAtHL (s : State) : Result := aluOperand .cp .atHL s
/-- `CP A` (R190). -/
def execCpA (s : State) : Result := aluOperand .cp .a s
/-- `ADD A,n` (R183). -/
def execAddAN (n : Byte) (s : State) : Result := aluImmediate .add n s
/-- `ADC A,n` (R184). -/
def execAdcAN (n : Byte) (s : State) : Result := aluImmediate .adc n s
/-- `SUB n` (R185). -/
def execSubN (n : Byte) (s : State) : Result := aluImmediate .sub n s
/-- `SBC A,n` (R186). -/
def execSbcAN (n : Byte) (s : State) : Result := aluImmediate .sbc n s
/-- `AND n` (R187). -/
def execAndN (n : Byte) (s : State) : Result := aluImmediate .and n s
/-- `XOR n` (R188). -/
def execXorN (n : Byte) (s : State) : Result := aluImmediate .xor n s
/-- `OR n` (R189). -/
def execOrN (n : Byte) (s : State) : Result := aluImmediate .or n s
/-- `CP n` (R190). -/
def execCpN (n : Byte) (s : State) : Result := aluImmediate .cp n s

end Sys2Proof.Machine
end

