-- ==== Sys2Proof/Machine/BitOps.lean ====
section
/-! DEFINITION. CB groups 1 to 3: bit test, reset and set (44_rotate_shift_bit.md R232 to R235). -/

namespace Sys2Proof.Machine

/-- `BIT b,r` (R232): the operand is read and not written; `Cf` unchanged. -/
def testBit (b : Nat) (r : Operand8) (s : State) : Result :=
  .next (advance 2 (setFlags (some (!(readR8 r s).getLsbD b)) (some false) (some true) none s))

/-- `RES b,r` (R233): the write happens also when the bit was 0. -/
def resetBit (b : Nat) (r : Operand8) (s : State) : Result :=
  .next (advance 2 (writeR8 r (readR8 r s &&& ~~~ ((1 : Byte) <<< b)) s))

/-- `SET b,r` (R234): the write happens also when the bit was 1. -/
def setBit (b : Nat) (r : Operand8) (s : State) : Result :=
  .next (advance 2 (writeR8 r (readR8 r s ||| ((1 : Byte) <<< b)) s))

/-! ### One meaning per instruction -/

/-- `BIT 0,B` (R232). -/
def execBit0B (s : State) : Result := testBit 0 .b s
/-- `BIT 0,C` (R232). -/
def execBit0C (s : State) : Result := testBit 0 .c s
/-- `BIT 0,D` (R232). -/
def execBit0D (s : State) : Result := testBit 0 .d s
/-- `BIT 0,E` (R232). -/
def execBit0E (s : State) : Result := testBit 0 .e s
/-- `BIT 0,H` (R232). -/
def execBit0H (s : State) : Result := testBit 0 .h s
/-- `BIT 0,L` (R232). -/
def execBit0L (s : State) : Result := testBit 0 .l s
/-- `BIT 0,(HL)` (R232). -/
def execBit0AtHL (s : State) : Result := testBit 0 .atHL s
/-- `BIT 0,A` (R232). -/
def execBit0A (s : State) : Result := testBit 0 .a s
/-- `BIT 1,B` (R232). -/
def execBit1B (s : State) : Result := testBit 1 .b s
/-- `BIT 1,C` (R232). -/
def execBit1C (s : State) : Result := testBit 1 .c s
/-- `BIT 1,D` (R232). -/
def execBit1D (s : State) : Result := testBit 1 .d s
/-- `BIT 1,E` (R232). -/
def execBit1E (s : State) : Result := testBit 1 .e s
/-- `BIT 1,H` (R232). -/
def execBit1H (s : State) : Result := testBit 1 .h s
/-- `BIT 1,L` (R232). -/
def execBit1L (s : State) : Result := testBit 1 .l s
/-- `BIT 1,(HL)` (R232). -/
def execBit1AtHL (s : State) : Result := testBit 1 .atHL s
/-- `BIT 1,A` (R232). -/
def execBit1A (s : State) : Result := testBit 1 .a s
/-- `BIT 2,B` (R232). -/
def execBit2B (s : State) : Result := testBit 2 .b s
/-- `BIT 2,C` (R232). -/
def execBit2C (s : State) : Result := testBit 2 .c s
/-- `BIT 2,D` (R232). -/
def execBit2D (s : State) : Result := testBit 2 .d s
/-- `BIT 2,E` (R232). -/
def execBit2E (s : State) : Result := testBit 2 .e s
/-- `BIT 2,H` (R232). -/
def execBit2H (s : State) : Result := testBit 2 .h s
/-- `BIT 2,L` (R232). -/
def execBit2L (s : State) : Result := testBit 2 .l s
/-- `BIT 2,(HL)` (R232). -/
def execBit2AtHL (s : State) : Result := testBit 2 .atHL s
/-- `BIT 2,A` (R232). -/
def execBit2A (s : State) : Result := testBit 2 .a s
/-- `BIT 3,B` (R232). -/
def execBit3B (s : State) : Result := testBit 3 .b s
/-- `BIT 3,C` (R232). -/
def execBit3C (s : State) : Result := testBit 3 .c s
/-- `BIT 3,D` (R232). -/
def execBit3D (s : State) : Result := testBit 3 .d s
/-- `BIT 3,E` (R232). -/
def execBit3E (s : State) : Result := testBit 3 .e s
/-- `BIT 3,H` (R232). -/
def execBit3H (s : State) : Result := testBit 3 .h s
/-- `BIT 3,L` (R232). -/
def execBit3L (s : State) : Result := testBit 3 .l s
/-- `BIT 3,(HL)` (R232). -/
def execBit3AtHL (s : State) : Result := testBit 3 .atHL s
/-- `BIT 3,A` (R232). -/
def execBit3A (s : State) : Result := testBit 3 .a s
/-- `BIT 4,B` (R232). -/
def execBit4B (s : State) : Result := testBit 4 .b s
/-- `BIT 4,C` (R232). -/
def execBit4C (s : State) : Result := testBit 4 .c s
/-- `BIT 4,D` (R232). -/
def execBit4D (s : State) : Result := testBit 4 .d s
/-- `BIT 4,E` (R232). -/
def execBit4E (s : State) : Result := testBit 4 .e s
/-- `BIT 4,H` (R232). -/
def execBit4H (s : State) : Result := testBit 4 .h s
/-- `BIT 4,L` (R232). -/
def execBit4L (s : State) : Result := testBit 4 .l s
/-- `BIT 4,(HL)` (R232). -/
def execBit4AtHL (s : State) : Result := testBit 4 .atHL s
/-- `BIT 4,A` (R232). -/
def execBit4A (s : State) : Result := testBit 4 .a s
/-- `BIT 5,B` (R232). -/
def execBit5B (s : State) : Result := testBit 5 .b s
/-- `BIT 5,C` (R232). -/
def execBit5C (s : State) : Result := testBit 5 .c s
/-- `BIT 5,D` (R232). -/
def execBit5D (s : State) : Result := testBit 5 .d s
/-- `BIT 5,E` (R232). -/
def execBit5E (s : State) : Result := testBit 5 .e s
/-- `BIT 5,H` (R232). -/
def execBit5H (s : State) : Result := testBit 5 .h s
/-- `BIT 5,L` (R232). -/
def execBit5L (s : State) : Result := testBit 5 .l s
/-- `BIT 5,(HL)` (R232). -/
def execBit5AtHL (s : State) : Result := testBit 5 .atHL s
/-- `BIT 5,A` (R232). -/
def execBit5A (s : State) : Result := testBit 5 .a s
/-- `BIT 6,B` (R232). -/
def execBit6B (s : State) : Result := testBit 6 .b s
/-- `BIT 6,C` (R232). -/
def execBit6C (s : State) : Result := testBit 6 .c s
/-- `BIT 6,D` (R232). -/
def execBit6D (s : State) : Result := testBit 6 .d s
/-- `BIT 6,E` (R232). -/
def execBit6E (s : State) : Result := testBit 6 .e s
/-- `BIT 6,H` (R232). -/
def execBit6H (s : State) : Result := testBit 6 .h s
/-- `BIT 6,L` (R232). -/
def execBit6L (s : State) : Result := testBit 6 .l s
/-- `BIT 6,(HL)` (R232). -/
def execBit6AtHL (s : State) : Result := testBit 6 .atHL s
/-- `BIT 6,A` (R232). -/
def execBit6A (s : State) : Result := testBit 6 .a s
/-- `BIT 7,B` (R232). -/
def execBit7B (s : State) : Result := testBit 7 .b s
/-- `BIT 7,C` (R232). -/
def execBit7C (s : State) : Result := testBit 7 .c s
/-- `BIT 7,D` (R232). -/
def execBit7D (s : State) : Result := testBit 7 .d s
/-- `BIT 7,E` (R232). -/
def execBit7E (s : State) : Result := testBit 7 .e s
/-- `BIT 7,H` (R232). -/
def execBit7H (s : State) : Result := testBit 7 .h s
/-- `BIT 7,L` (R232). -/
def execBit7L (s : State) : Result := testBit 7 .l s
/-- `BIT 7,(HL)` (R232). -/
def execBit7AtHL (s : State) : Result := testBit 7 .atHL s
/-- `BIT 7,A` (R232). -/
def execBit7A (s : State) : Result := testBit 7 .a s
/-- `RES 0,B` (R233). -/
def execRes0B (s : State) : Result := resetBit 0 .b s
/-- `RES 0,C` (R233). -/
def execRes0C (s : State) : Result := resetBit 0 .c s
/-- `RES 0,D` (R233). -/
def execRes0D (s : State) : Result := resetBit 0 .d s
/-- `RES 0,E` (R233). -/
def execRes0E (s : State) : Result := resetBit 0 .e s
/-- `RES 0,H` (R233). -/
def execRes0H (s : State) : Result := resetBit 0 .h s
/-- `RES 0,L` (R233). -/
def execRes0L (s : State) : Result := resetBit 0 .l s
/-- `RES 0,(HL)` (R233). -/
def execRes0AtHL (s : State) : Result := resetBit 0 .atHL s
/-- `RES 0,A` (R233). -/
def execRes0A (s : State) : Result := resetBit 0 .a s
/-- `RES 1,B` (R233). -/
def execRes1B (s : State) : Result := resetBit 1 .b s
/-- `RES 1,C` (R233). -/
def execRes1C (s : State) : Result := resetBit 1 .c s
/-- `RES 1,D` (R233). -/
def execRes1D (s : State) : Result := resetBit 1 .d s
/-- `RES 1,E` (R233). -/
def execRes1E (s : State) : Result := resetBit 1 .e s
/-- `RES 1,H` (R233). -/
def execRes1H (s : State) : Result := resetBit 1 .h s
/-- `RES 1,L` (R233). -/
def execRes1L (s : State) : Result := resetBit 1 .l s
/-- `RES 1,(HL)` (R233). -/
def execRes1AtHL (s : State) : Result := resetBit 1 .atHL s
/-- `RES 1,A` (R233). -/
def execRes1A (s : State) : Result := resetBit 1 .a s
/-- `RES 2,B` (R233). -/
def execRes2B (s : State) : Result := resetBit 2 .b s
/-- `RES 2,C` (R233). -/
def execRes2C (s : State) : Result := resetBit 2 .c s
/-- `RES 2,D` (R233). -/
def execRes2D (s : State) : Result := resetBit 2 .d s
/-- `RES 2,E` (R233). -/
def execRes2E (s : State) : Result := resetBit 2 .e s
/-- `RES 2,H` (R233). -/
def execRes2H (s : State) : Result := resetBit 2 .h s
/-- `RES 2,L` (R233). -/
def execRes2L (s : State) : Result := resetBit 2 .l s
/-- `RES 2,(HL)` (R233). -/
def execRes2AtHL (s : State) : Result := resetBit 2 .atHL s
/-- `RES 2,A` (R233). -/
def execRes2A (s : State) : Result := resetBit 2 .a s
/-- `RES 3,B` (R233). -/
def execRes3B (s : State) : Result := resetBit 3 .b s
/-- `RES 3,C` (R233). -/
def execRes3C (s : State) : Result := resetBit 3 .c s
/-- `RES 3,D` (R233). -/
def execRes3D (s : State) : Result := resetBit 3 .d s
/-- `RES 3,E` (R233). -/
def execRes3E (s : State) : Result := resetBit 3 .e s
/-- `RES 3,H` (R233). -/
def execRes3H (s : State) : Result := resetBit 3 .h s
/-- `RES 3,L` (R233). -/
def execRes3L (s : State) : Result := resetBit 3 .l s
/-- `RES 3,(HL)` (R233). -/
def execRes3AtHL (s : State) : Result := resetBit 3 .atHL s
/-- `RES 3,A` (R233). -/
def execRes3A (s : State) : Result := resetBit 3 .a s
/-- `RES 4,B` (R233). -/
def execRes4B (s : State) : Result := resetBit 4 .b s
/-- `RES 4,C` (R233). -/
def execRes4C (s : State) : Result := resetBit 4 .c s
/-- `RES 4,D` (R233). -/
def execRes4D (s : State) : Result := resetBit 4 .d s
/-- `RES 4,E` (R233). -/
def execRes4E (s : State) : Result := resetBit 4 .e s
/-- `RES 4,H` (R233). -/
def execRes4H (s : State) : Result := resetBit 4 .h s
/-- `RES 4,L` (R233). -/
def execRes4L (s : State) : Result := resetBit 4 .l s
/-- `RES 4,(HL)` (R233). -/
def execRes4AtHL (s : State) : Result := resetBit 4 .atHL s
/-- `RES 4,A` (R233). -/
def execRes4A (s : State) : Result := resetBit 4 .a s
/-- `RES 5,B` (R233). -/
def execRes5B (s : State) : Result := resetBit 5 .b s
/-- `RES 5,C` (R233). -/
def execRes5C (s : State) : Result := resetBit 5 .c s
/-- `RES 5,D` (R233). -/
def execRes5D (s : State) : Result := resetBit 5 .d s
/-- `RES 5,E` (R233). -/
def execRes5E (s : State) : Result := resetBit 5 .e s
/-- `RES 5,H` (R233). -/
def execRes5H (s : State) : Result := resetBit 5 .h s
/-- `RES 5,L` (R233). -/
def execRes5L (s : State) : Result := resetBit 5 .l s
/-- `RES 5,(HL)` (R233). -/
def execRes5AtHL (s : State) : Result := resetBit 5 .atHL s
/-- `RES 5,A` (R233). -/
def execRes5A (s : State) : Result := resetBit 5 .a s
/-- `RES 6,B` (R233). -/
def execRes6B (s : State) : Result := resetBit 6 .b s
/-- `RES 6,C` (R233). -/
def execRes6C (s : State) : Result := resetBit 6 .c s
/-- `RES 6,D` (R233). -/
def execRes6D (s : State) : Result := resetBit 6 .d s
/-- `RES 6,E` (R233). -/
def execRes6E (s : State) : Result := resetBit 6 .e s
/-- `RES 6,H` (R233). -/
def execRes6H (s : State) : Result := resetBit 6 .h s
/-- `RES 6,L` (R233). -/
def execRes6L (s : State) : Result := resetBit 6 .l s
/-- `RES 6,(HL)` (R233). -/
def execRes6AtHL (s : State) : Result := resetBit 6 .atHL s
/-- `RES 6,A` (R233). -/
def execRes6A (s : State) : Result := resetBit 6 .a s
/-- `RES 7,B` (R233). -/
def execRes7B (s : State) : Result := resetBit 7 .b s
/-- `RES 7,C` (R233). -/
def execRes7C (s : State) : Result := resetBit 7 .c s
/-- `RES 7,D` (R233). -/
def execRes7D (s : State) : Result := resetBit 7 .d s
/-- `RES 7,E` (R233). -/
def execRes7E (s : State) : Result := resetBit 7 .e s
/-- `RES 7,H` (R233). -/
def execRes7H (s : State) : Result := resetBit 7 .h s
/-- `RES 7,L` (R233). -/
def execRes7L (s : State) : Result := resetBit 7 .l s
/-- `RES 7,(HL)` (R233). -/
def execRes7AtHL (s : State) : Result := resetBit 7 .atHL s
/-- `RES 7,A` (R233). -/
def execRes7A (s : State) : Result := resetBit 7 .a s
/-- `SET 0,B` (R234). -/
def execSet0B (s : State) : Result := setBit 0 .b s
/-- `SET 0,C` (R234). -/
def execSet0C (s : State) : Result := setBit 0 .c s
/-- `SET 0,D` (R234). -/
def execSet0D (s : State) : Result := setBit 0 .d s
/-- `SET 0,E` (R234). -/
def execSet0E (s : State) : Result := setBit 0 .e s
/-- `SET 0,H` (R234). -/
def execSet0H (s : State) : Result := setBit 0 .h s
/-- `SET 0,L` (R234). -/
def execSet0L (s : State) : Result := setBit 0 .l s
/-- `SET 0,(HL)` (R234). -/
def execSet0AtHL (s : State) : Result := setBit 0 .atHL s
/-- `SET 0,A` (R234). -/
def execSet0A (s : State) : Result := setBit 0 .a s
/-- `SET 1,B` (R234). -/
def execSet1B (s : State) : Result := setBit 1 .b s
/-- `SET 1,C` (R234). -/
def execSet1C (s : State) : Result := setBit 1 .c s
/-- `SET 1,D` (R234). -/
def execSet1D (s : State) : Result := setBit 1 .d s
/-- `SET 1,E` (R234). -/
def execSet1E (s : State) : Result := setBit 1 .e s
/-- `SET 1,H` (R234). -/
def execSet1H (s : State) : Result := setBit 1 .h s
/-- `SET 1,L` (R234). -/
def execSet1L (s : State) : Result := setBit 1 .l s
/-- `SET 1,(HL)` (R234). -/
def execSet1AtHL (s : State) : Result := setBit 1 .atHL s
/-- `SET 1,A` (R234). -/
def execSet1A (s : State) : Result := setBit 1 .a s
/-- `SET 2,B` (R234). -/
def execSet2B (s : State) : Result := setBit 2 .b s
/-- `SET 2,C` (R234). -/
def execSet2C (s : State) : Result := setBit 2 .c s
/-- `SET 2,D` (R234). -/
def execSet2D (s : State) : Result := setBit 2 .d s
/-- `SET 2,E` (R234). -/
def execSet2E (s : State) : Result := setBit 2 .e s
/-- `SET 2,H` (R234). -/
def execSet2H (s : State) : Result := setBit 2 .h s
/-- `SET 2,L` (R234). -/
def execSet2L (s : State) : Result := setBit 2 .l s
/-- `SET 2,(HL)` (R234). -/
def execSet2AtHL (s : State) : Result := setBit 2 .atHL s
/-- `SET 2,A` (R234). -/
def execSet2A (s : State) : Result := setBit 2 .a s
/-- `SET 3,B` (R234). -/
def execSet3B (s : State) : Result := setBit 3 .b s
/-- `SET 3,C` (R234). -/
def execSet3C (s : State) : Result := setBit 3 .c s
/-- `SET 3,D` (R234). -/
def execSet3D (s : State) : Result := setBit 3 .d s
/-- `SET 3,E` (R234). -/
def execSet3E (s : State) : Result := setBit 3 .e s
/-- `SET 3,H` (R234). -/
def execSet3H (s : State) : Result := setBit 3 .h s
/-- `SET 3,L` (R234). -/
def execSet3L (s : State) : Result := setBit 3 .l s
/-- `SET 3,(HL)` (R234). -/
def execSet3AtHL (s : State) : Result := setBit 3 .atHL s
/-- `SET 3,A` (R234). -/
def execSet3A (s : State) : Result := setBit 3 .a s
/-- `SET 4,B` (R234). -/
def execSet4B (s : State) : Result := setBit 4 .b s
/-- `SET 4,C` (R234). -/
def execSet4C (s : State) : Result := setBit 4 .c s
/-- `SET 4,D` (R234). -/
def execSet4D (s : State) : Result := setBit 4 .d s
/-- `SET 4,E` (R234). -/
def execSet4E (s : State) : Result := setBit 4 .e s
/-- `SET 4,H` (R234). -/
def execSet4H (s : State) : Result := setBit 4 .h s
/-- `SET 4,L` (R234). -/
def execSet4L (s : State) : Result := setBit 4 .l s
/-- `SET 4,(HL)` (R234). -/
def execSet4AtHL (s : State) : Result := setBit 4 .atHL s
/-- `SET 4,A` (R234). -/
def execSet4A (s : State) : Result := setBit 4 .a s
/-- `SET 5,B` (R234). -/
def execSet5B (s : State) : Result := setBit 5 .b s
/-- `SET 5,C` (R234). -/
def execSet5C (s : State) : Result := setBit 5 .c s
/-- `SET 5,D` (R234). -/
def execSet5D (s : State) : Result := setBit 5 .d s
/-- `SET 5,E` (R234). -/
def execSet5E (s : State) : Result := setBit 5 .e s
/-- `SET 5,H` (R234). -/
def execSet5H (s : State) : Result := setBit 5 .h s
/-- `SET 5,L` (R234). -/
def execSet5L (s : State) : Result := setBit 5 .l s
/-- `SET 5,(HL)` (R234). -/
def execSet5AtHL (s : State) : Result := setBit 5 .atHL s
/-- `SET 5,A` (R234). -/
def execSet5A (s : State) : Result := setBit 5 .a s
/-- `SET 6,B` (R234). -/
def execSet6B (s : State) : Result := setBit 6 .b s
/-- `SET 6,C` (R234). -/
def execSet6C (s : State) : Result := setBit 6 .c s
/-- `SET 6,D` (R234). -/
def execSet6D (s : State) : Result := setBit 6 .d s
/-- `SET 6,E` (R234). -/
def execSet6E (s : State) : Result := setBit 6 .e s
/-- `SET 6,H` (R234). -/
def execSet6H (s : State) : Result := setBit 6 .h s
/-- `SET 6,L` (R234). -/
def execSet6L (s : State) : Result := setBit 6 .l s
/-- `SET 6,(HL)` (R234). -/
def execSet6AtHL (s : State) : Result := setBit 6 .atHL s
/-- `SET 6,A` (R234). -/
def execSet6A (s : State) : Result := setBit 6 .a s
/-- `SET 7,B` (R234). -/
def execSet7B (s : State) : Result := setBit 7 .b s
/-- `SET 7,C` (R234). -/
def execSet7C (s : State) : Result := setBit 7 .c s
/-- `SET 7,D` (R234). -/
def execSet7D (s : State) : Result := setBit 7 .d s
/-- `SET 7,E` (R234). -/
def execSet7E (s : State) : Result := setBit 7 .e s
/-- `SET 7,H` (R234). -/
def execSet7H (s : State) : Result := setBit 7 .h s
/-- `SET 7,L` (R234). -/
def execSet7L (s : State) : Result := setBit 7 .l s
/-- `SET 7,(HL)` (R234). -/
def execSet7AtHL (s : State) : Result := setBit 7 .atHL s
/-- `SET 7,A` (R234). -/
def execSet7A (s : State) : Result := setBit 7 .a s

end Sys2Proof.Machine
end

