-- ==== Sys2Proof/Machine/Control.lean ====
section
/-! DEFINITION. Control transfer (45_control.md R250 to R262). No instruction here writes a flag; a transfer not taken
still consumes its immediate bytes (R255). -/

namespace Sys2Proof.Machine

/-- `JP nn`, `JP (HL)` (R250, R252). -/
def jump (target : Word) (s : State) : Result := .next (setPC target s)

/-- `JP cc,nn` (R251). -/
def jumpIf (cc : Cond) (nn : Word) (s : State) : Result :=
  .next (setPC (if cond cc s then nn else s.pc + 3) s)

/-- `JR e`, `JR cc,e` (R253, R254): the offset is added to the address after the instruction. -/
def jumpRelative (taken : Bool) (e : Int) (s : State) : Result :=
  .next (setPC (if taken then s.pc + 2 + sext16 (offsetByte e) else s.pc + 2) s)

/-- `CALL nn`, `CALL cc,nn` (R256, R257): push the address of the next instruction. -/
def call (taken : Bool) (nn : Word) (s : State) : Result :=
  .next (if taken then setPC nn (push (s.pc + 3) s) else advance 3 s)

/-- `RET`, `RET cc` (R258, R259): when not taken the stack is not read. -/
def ret (taken : Bool) (s : State) : Result :=
  .next (if taken then setPC (popped s) (dropStack s) else advance 1 s)

/-- `RST t` (R261): a one-byte call to `t * 8`. -/
def restart (t : Nat) (s : State) : Result := .next (setPC (BitVec.ofNat 16 (t * 8)) (push (s.pc + 1) s))

/-! ### One meaning per instruction -/

/-- `JR e` (R253). -/
def execJrE (e : Int) (s : State) : Result := jumpRelative true e s
/-- `JR NZ,e` (R254). -/
def execJrNZE (e : Int) (s : State) : Result := jumpRelative (cond .nz s) e s
/-- `JR Z,e` (R254). -/
def execJrZE (e : Int) (s : State) : Result := jumpRelative (cond .z s) e s
/-- `JR NC,e` (R254). -/
def execJrNCE (e : Int) (s : State) : Result := jumpRelative (cond .nc s) e s
/-- `JR C,e` (R254). -/
def execJrCE (e : Int) (s : State) : Result := jumpRelative (cond .c s) e s
/-- `RET NZ` (R259). -/
def execRetNZ (s : State) : Result := ret (cond .nz s) s
/-- `JP NZ,nn` (R251). -/
def execJpNZNn (nn : Word) (s : State) : Result := jumpIf .nz nn s
/-- `JP nn` (R250). -/
def execJpNn (nn : Word) (s : State) : Result := jump nn s
/-- `CALL NZ,nn` (R257). -/
def execCallNZNn (nn : Word) (s : State) : Result := call (cond .nz s) nn s
/-- `RST 00` (R261). -/
def execRst00 (s : State) : Result := restart 0 s
/-- `RET Z` (R259). -/
def execRetZ (s : State) : Result := ret (cond .z s) s
/-- `RET` (R258). -/
def execRet (s : State) : Result := ret true s
/-- `JP Z,nn` (R251). -/
def execJpZNn (nn : Word) (s : State) : Result := jumpIf .z nn s
/-- `CALL Z,nn` (R257). -/
def execCallZNn (nn : Word) (s : State) : Result := call (cond .z s) nn s
/-- `CALL nn` (R256). -/
def execCallNn (nn : Word) (s : State) : Result := call true nn s
/-- `RST 08` (R261). -/
def execRst08 (s : State) : Result := restart 1 s
/-- `RET NC` (R259). -/
def execRetNC (s : State) : Result := ret (cond .nc s) s
/-- `JP NC,nn` (R251). -/
def execJpNCNn (nn : Word) (s : State) : Result := jumpIf .nc nn s
/-- `CALL NC,nn` (R257). -/
def execCallNCNn (nn : Word) (s : State) : Result := call (cond .nc s) nn s
/-- `RST 10` (R261). -/
def execRst10 (s : State) : Result := restart 2 s
/-- `RET C` (R259). -/
def execRetC (s : State) : Result := ret (cond .c s) s
/-- `RETI` (R260). -/
def execReti (s : State) : Result := .next (returnFromInterrupt s)
/-- `JP C,nn` (R251). -/
def execJpCNn (nn : Word) (s : State) : Result := jumpIf .c nn s
/-- `CALL C,nn` (R257). -/
def execCallCNn (nn : Word) (s : State) : Result := call (cond .c s) nn s
/-- `RST 18` (R261). -/
def execRst18 (s : State) : Result := restart 3 s
/-- `RST 20` (R261). -/
def execRst20 (s : State) : Result := restart 4 s
/-- `JP (HL)` (R252). -/
def execJpAtHL (s : State) : Result := jump s.hl s
/-- `RST 28` (R261). -/
def execRst28 (s : State) : Result := restart 5 s
/-- `RST 30` (R261). -/
def execRst30 (s : State) : Result := restart 6 s
/-- `RST 38` (R261). -/
def execRst38 (s : State) : Result := restart 7 s

end Sys2Proof.Machine
end

