-- ==== Sys2Proof/Machine/Load16.lean ====
section
/-! DEFINITION. 16-bit loads and the stack instructions (41_load16_stack.md R160 to R167). -/

namespace Sys2Proof.Machine

/-- `LD rp,nn` (R160). -/
def loadPairImm (p : Pair) (nn : Word) (s : State) : Result := .next (advance 3 (writePair p nn s))

/-- `LD (nn),SP` (R161): the low byte first. -/
def storeSP (nn : Word) (s : State) : Result := .next (advance 3 (busWrite16 nn s.sp s))

/-- `LD SP,HL` (R162). -/
def loadSPFromHL (s : State) : Result := .next (advance 1 (setSP s.hl s))

/-- `LD HL,SP+e` (R163): both carries from the low byte of SP and the unsigned byte `n`. -/
def loadHLFromSPOffset (e : Int) (s : State) : Result :=
  let n := offsetByte e
  .next (advance 2
    (setFlags (some false) (some false) (some (halfSP s.sp n)) (some (carrySP s.sp n)) (setHL (s.sp + sext16 n) s)))

/-- `PUSH rp2` (R165). -/
def pushRegister (p : PairAF) (s : State) : Result := .next (advance 1 (push (readPairAF p s) s))

/-- `POP rp2` (R166, R167). -/
def popRegister (p : PairAF) (s : State) : Result := .next (advance 1 (writePairAF p (popped s) (dropStack s)))

/-! ### One meaning per instruction -/

/-- `LD BC,nn` (R160). -/
def execLdBCNn (nn : Word) (s : State) : Result := loadPairImm .bc nn s
/-- `LD (nn),SP` (R161). -/
def execLdAtNnSP (nn : Word) (s : State) : Result := storeSP nn s
/-- `LD DE,nn` (R160). -/
def execLdDENn (nn : Word) (s : State) : Result := loadPairImm .de nn s
/-- `LD HL,nn` (R160). -/
def execLdHLNn (nn : Word) (s : State) : Result := loadPairImm .hl nn s
/-- `LD SP,nn` (R160). -/
def execLdSPNn (nn : Word) (s : State) : Result := loadPairImm .sp nn s
/-- `POP BC` (R166). -/
def execPopBC (s : State) : Result := popRegister .bc s
/-- `PUSH BC` (R165). -/
def execPushBC (s : State) : Result := pushRegister .bc s
/-- `POP DE` (R166). -/
def execPopDE (s : State) : Result := popRegister .de s
/-- `PUSH DE` (R165). -/
def execPushDE (s : State) : Result := pushRegister .de s
/-- `POP HL` (R166). -/
def execPopHL (s : State) : Result := popRegister .hl s
/-- `PUSH HL` (R165). -/
def execPushHL (s : State) : Result := pushRegister .hl s
/-- `POP AF` (R167). -/
def execPopAF (s : State) : Result := popRegister .af s
/-- `PUSH AF` (R165). -/
def execPushAF (s : State) : Result := pushRegister .af s
/-- `LD HL,SP+e` (R163). -/
def execLdHLSPE (e : Int) (s : State) : Result := loadHLFromSPOffset e s
/-- `LD SP,HL` (R162). -/
def execLdSPHL (s : State) : Result := loadSPFromHL s

end Sys2Proof.Machine
end

