-- ==== Sys2Proof/Machine/Load8.lean ====
section
/-! DEFINITION. 8-bit loads (40_load8.md R130 to R149). No load writes a flag or touches `IME`, `ime_delay` or `halted`
(R135). -/

namespace Sys2Proof.Machine

/-- `r8[dst] <- r8[src]`, length 1: LD r,r'; LD r,(HL); LD (HL),r (R130 to R132). -/
def load8 (dst src : Operand8) (s : State) : Result := .next (advance 1 (writeR8 dst (readR8 src s) s))

/-- `r8[dst] <- n`, length 2: LD r,n; LD (HL),n (R133, R134). -/
def loadImm8 (dst : Operand8) (n : Byte) (s : State) : Result := .next (advance 2 (writeR8 dst n s))

/-- `MemWrite(addr, 1, A)` (R136, R137, R140, R141, R143). -/
def storeA (length : Nat) (addr : Word) (s : State) : Result := .next (advance length (busWrite addr s.a s))

/-- `A <- MemRead(addr, 1)` (R138, R139, R142, R144, R149). -/
def loadA (length : Nat) (addr : Word) (s : State) : Result :=
  .next (advance length { s with a := busRead addr s })

/-- `MemWrite(HL, 1, A)`, then `HL <- HL +16 delta` (R145, R147). -/
def storeAStep (delta : Word) (s : State) : Result :=
  .next (advance 1 (setHL (s.hl + delta) (busWrite s.hl s.a s)))

/-- `A <- MemRead(HL, 1)`, then `HL <- HL +16 delta` (R146, R148). -/
def loadAStep (delta : Word) (s : State) : Result :=
  .next (advance 1 (setHL (s.hl + delta) { s with a := busRead s.hl s }))

/-! ### One meaning per instruction -/

/-- `LD (BC),A` (R136). -/
def execLdAtBCA (s : State) : Result := storeA 1 s.bc s
/-- `LD B,n` (R133). -/
def execLdBN (n : Byte) (s : State) : Result := loadImm8 .b n s
/-- `LD A,(BC)` (R138). -/
def execLdAAtBC (s : State) : Result := loadA 1 s.bc s
/-- `LD C,n` (R133). -/
def execLdCN (n : Byte) (s : State) : Result := loadImm8 .c n s
/-- `LD (DE),A` (R137). -/
def execLdAtDEA (s : State) : Result := storeA 1 s.de s
/-- `LD D,n` (R133). -/
def execLdDN (n : Byte) (s : State) : Result := loadImm8 .d n s
/-- `LD A,(DE)` (R139). -/
def execLdAAtDE (s : State) : Result := loadA 1 s.de s
/-- `LD E,n` (R133). -/
def execLdEN (n : Byte) (s : State) : Result := loadImm8 .e n s
/-- `LD (HL+),A` (R145). -/
def execLdAtHLIncA (s : State) : Result := storeAStep 1 s
/-- `LD H,n` (R133). -/
def execLdHN (n : Byte) (s : State) : Result := loadImm8 .h n s
/-- `LD A,(HL+)` (R146). -/
def execLdAAtHLInc (s : State) : Result := loadAStep 1 s
/-- `LD L,n` (R133). -/
def execLdLN (n : Byte) (s : State) : Result := loadImm8 .l n s
/-- `LD (HL-),A` (R147). -/
def execLdAtHLDecA (s : State) : Result := storeAStep (-1) s
/-- `LD (HL),n` (R134). -/
def execLdAtHLN (n : Byte) (s : State) : Result := loadImm8 .atHL n s
/-- `LD A,(HL-)` (R148). -/
def execLdAAtHLDec (s : State) : Result := loadAStep (-1) s
/-- `LD A,n` (R133). -/
def execLdAN (n : Byte) (s : State) : Result := loadImm8 .a n s
/-- `LD B,B` (R130). -/
def execLdBB (s : State) : Result := load8 .b .b s
/-- `LD B,C` (R130). -/
def execLdBC (s : State) : Result := load8 .b .c s
/-- `LD B,D` (R130). -/
def execLdBD (s : State) : Result := load8 .b .d s
/-- `LD B,E` (R130). -/
def execLdBE (s : State) : Result := load8 .b .e s
/-- `LD B,H` (R130). -/
def execLdBH (s : State) : Result := load8 .b .h s
/-- `LD B,L` (R130). -/
def execLdBL (s : State) : Result := load8 .b .l s
/-- `LD B,(HL)` (R131). -/
def execLdBAtHL (s : State) : Result := load8 .b .atHL s
/-- `LD B,A` (R130). -/
def execLdBA (s : State) : Result := load8 .b .a s
/-- `LD C,B` (R130). -/
def execLdCB (s : State) : Result := load8 .c .b s
/-- `LD C,C` (R130). -/
def execLdCC (s : State) : Result := load8 .c .c s
/-- `LD C,D` (R130). -/
def execLdCD (s : State) : Result := load8 .c .d s
/-- `LD C,E` (R130). -/
def execLdCE (s : State) : Result := load8 .c .e s
/-- `LD C,H` (R130). -/
def execLdCH (s : State) : Result := load8 .c .h s
/-- `LD C,L` (R130). -/
def execLdCL (s : State) : Result := load8 .c .l s
/-- `LD C,(HL)` (R131). -/
def execLdCAtHL (s : State) : Result := load8 .c .atHL s
/-- `LD C,A` (R130). -/
def execLdCA (s : State) : Result := load8 .c .a s
/-- `LD D,B` (R130). -/
def execLdDB (s : State) : Result := load8 .d .b s
/-- `LD D,C` (R130). -/
def execLdDC (s : State) : Result := load8 .d .c s
/-- `LD D,D` (R130). -/
def execLdDD (s : State) : Result := load8 .d .d s
/-- `LD D,E` (R130). -/
def execLdDE (s : State) : Result := load8 .d .e s
/-- `LD D,H` (R130). -/
def execLdDH (s : State) : Result := load8 .d .h s
/-- `LD D,L` (R130). -/
def execLdDL (s : State) : Result := load8 .d .l s
/-- `LD D,(HL)` (R131). -/
def execLdDAtHL (s : State) : Result := load8 .d .atHL s
/-- `LD D,A` (R130). -/
def execLdDA (s : State) : Result := load8 .d .a s
/-- `LD E,B` (R130). -/
def execLdEB (s : State) : Result := load8 .e .b s
/-- `LD E,C` (R130). -/
def execLdEC (s : State) : Result := load8 .e .c s
/-- `LD E,D` (R130). -/
def execLdED (s : State) : Result := load8 .e .d s
/-- `LD E,E` (R130). -/
def execLdEE (s : State) : Result := load8 .e .e s
/-- `LD E,H` (R130). -/
def execLdEH (s : State) : Result := load8 .e .h s
/-- `LD E,L` (R130). -/
def execLdEL (s : State) : Result := load8 .e .l s
/-- `LD E,(HL)` (R131). -/
def execLdEAtHL (s : State) : Result := load8 .e .atHL s
/-- `LD E,A` (R130). -/
def execLdEA (s : State) : Result := load8 .e .a s
/-- `LD H,B` (R130). -/
def execLdHB (s : State) : Result := load8 .h .b s
/-- `LD H,C` (R130). -/
def execLdHC (s : State) : Result := load8 .h .c s
/-- `LD H,D` (R130). -/
def execLdHD (s : State) : Result := load8 .h .d s
/-- `LD H,E` (R130). -/
def execLdHE (s : State) : Result := load8 .h .e s
/-- `LD H,H` (R130). -/
def execLdHH (s : State) : Result := load8 .h .h s
/-- `LD H,L` (R130). -/
def execLdHL (s : State) : Result := load8 .h .l s
/-- `LD H,(HL)` (R131). -/
def execLdHAtHL (s : State) : Result := load8 .h .atHL s
/-- `LD H,A` (R130). -/
def execLdHA (s : State) : Result := load8 .h .a s
/-- `LD L,B` (R130). -/
def execLdLB (s : State) : Result := load8 .l .b s
/-- `LD L,C` (R130). -/
def execLdLC (s : State) : Result := load8 .l .c s
/-- `LD L,D` (R130). -/
def execLdLD (s : State) : Result := load8 .l .d s
/-- `LD L,E` (R130). -/
def execLdLE (s : State) : Result := load8 .l .e s
/-- `LD L,H` (R130). -/
def execLdLH (s : State) : Result := load8 .l .h s
/-- `LD L,L` (R130). -/
def execLdLL (s : State) : Result := load8 .l .l s
/-- `LD L,(HL)` (R131). -/
def execLdLAtHL (s : State) : Result := load8 .l .atHL s
/-- `LD L,A` (R130). -/
def execLdLA (s : State) : Result := load8 .l .a s
/-- `LD (HL),B` (R132). -/
def execLdAtHLB (s : State) : Result := load8 .atHL .b s
/-- `LD (HL),C` (R132). -/
def execLdAtHLC (s : State) : Result := load8 .atHL .c s
/-- `LD (HL),D` (R132). -/
def execLdAtHLD (s : State) : Result := load8 .atHL .d s
/-- `LD (HL),E` (R132). -/
def execLdAtHLE (s : State) : Result := load8 .atHL .e s
/-- `LD (HL),H` (R132). -/
def execLdAtHLH (s : State) : Result := load8 .atHL .h s
/-- `LD (HL),L` (R132). -/
def execLdAtHLL (s : State) : Result := load8 .atHL .l s
/-- `LD (HL),A` (R132). -/
def execLdAtHLA (s : State) : Result := load8 .atHL .a s
/-- `LD A,B` (R130). -/
def execLdAB (s : State) : Result := load8 .a .b s
/-- `LD A,C` (R130). -/
def execLdAC (s : State) : Result := load8 .a .c s
/-- `LD A,D` (R130). -/
def execLdAD (s : State) : Result := load8 .a .d s
/-- `LD A,E` (R130). -/
def execLdAE (s : State) : Result := load8 .a .e s
/-- `LD A,H` (R130). -/
def execLdAH (s : State) : Result := load8 .a .h s
/-- `LD A,L` (R130). -/
def execLdAL (s : State) : Result := load8 .a .l s
/-- `LD A,(HL)` (R131). -/
def execLdAAtHL (s : State) : Result := load8 .a .atHL s
/-- `LD A,A` (R130). -/
def execLdAA (s : State) : Result := load8 .a .a s
/-- `LDH (n),A` (R141). -/
def execLdhAtNA (n : Byte) (s : State) : Result := storeA 2 (highPage n) s
/-- `LD (C),A` (R143). -/
def execLdAtCA (s : State) : Result := storeA 1 (highPage s.c) s
/-- `LD (nn),A` (R140). -/
def execLdAtNnA (nn : Word) (s : State) : Result := storeA 3 nn s
/-- `LDH A,(n)` (R142). -/
def execLdhAAtN (n : Byte) (s : State) : Result := loadA 2 (highPage n) s
/-- `LD A,(C)` (R144). -/
def execLdAAtC (s : State) : Result := loadA 1 (highPage s.c) s
/-- `LD A,(nn)` (R149). -/
def execLdAAtNn (nn : Word) (s : State) : Result := loadA 3 nn s

end Sys2Proof.Machine
end

