-- ==== Sys2Proof/Machine/Rotate.lean ====
section
/-! DEFINITION. The accumulator rotates and CB group 0 (44_rotate_shift_bit.md R220 to R231, R235). -/

namespace Sys2Proof.Machine

/-- RLCA, RRCA, RLA, RRA (R220 to R223): `Z = 0` always, `Cf` the bit shifted out. -/
def rotateA (r : Shifted) (s : State) : Result :=
  .next (advance 1 (setFlags (some false) (some false) (some false) (some r.c) { s with a := r.new }))

/-- The eight variants of CB group 0 (R224 to R231). -/
def rotateOf (op : RotOp) (old : Byte) (c : Bool) : Shifted :=
  match op with
  | .rlc => rotLeftCircular old
  | .rrc => rotRightCircular old
  | .rl => rotLeftCarry old c
  | .rr => rotRightCarry old c
  | .sla => shiftLeftArith old
  | .sra => shiftRightArith old
  | .swap => swapNibbles old
  | .srl => shiftRightLogical old

/-- A rotate or shift of `r8[i]`, length 2 (R224 to R231): one read, then one write, also of an unchanged byte (R235). -/
def rotateOperand (op : RotOp) (r : Operand8) (s : State) : Result :=
  let o := rotateOf op (readR8 r s) s.cf
  .next (advance 2 (setFlags (some (decide (o.new = 0))) (some false) (some false) (some o.c) (writeR8 r o.new s)))

/-! ### One meaning per instruction -/

/-- `RLCA` (R220). -/
def execRlca (s : State) : Result := rotateA (rotLeftCircular s.a) s
/-- `RRCA` (R221). -/
def execRrca (s : State) : Result := rotateA (rotRightCircular s.a) s
/-- `RLA` (R222). -/
def execRla (s : State) : Result := rotateA (rotLeftCarry s.a s.cf) s
/-- `RRA` (R223). -/
def execRra (s : State) : Result := rotateA (rotRightCarry s.a s.cf) s
/-- `RLC B` (R224). -/
def execRlcB (s : State) : Result := rotateOperand .rlc .b s
/-- `RLC C` (R224). -/
def execRlcC (s : State) : Result := rotateOperand .rlc .c s
/-- `RLC D` (R224). -/
def execRlcD (s : State) : Result := rotateOperand .rlc .d s
/-- `RLC E` (R224). -/
def execRlcE (s : State) : Result := rotateOperand .rlc .e s
/-- `RLC H` (R224). -/
def execRlcH (s : State) : Result := rotateOperand .rlc .h s
/-- `RLC L` (R224). -/
def execRlcL (s : State) : Result := rotateOperand .rlc .l s
/-- `RLC (HL)` (R224). -/
def execRlcAtHL (s : State) : Result := rotateOperand .rlc .atHL s
/-- `RLC A` (R224). -/
def execRlcA (s : State) : Result := rotateOperand .rlc .a s
/-- `RRC B` (R225). -/
def execRrcB (s : State) : Result := rotateOperand .rrc .b s
/-- `RRC C` (R225). -/
def execRrcC (s : State) : Result := rotateOperand .rrc .c s
/-- `RRC D` (R225). -/
def execRrcD (s : State) : Result := rotateOperand .rrc .d s
/-- `RRC E` (R225). -/
def execRrcE (s : State) : Result := rotateOperand .rrc .e s
/-- `RRC H` (R225). -/
def execRrcH (s : State) : Result := rotateOperand .rrc .h s
/-- `RRC L` (R225). -/
def execRrcL (s : State) : Result := rotateOperand .rrc .l s
/-- `RRC (HL)` (R225). -/
def execRrcAtHL (s : State) : Result := rotateOperand .rrc .atHL s
/-- `RRC A` (R225). -/
def execRrcA (s : State) : Result := rotateOperand .rrc .a s
/-- `RL B` (R226). -/
def execRlB (s : State) : Result := rotateOperand .rl .b s
/-- `RL C` (R226). -/
def execRlC (s : State) : Result := rotateOperand .rl .c s
/-- `RL D` (R226). -/
def execRlD (s : State) : Result := rotateOperand .rl .d s
/-- `RL E` (R226). -/
def execRlE (s : State) : Result := rotateOperand .rl .e s
/-- `RL H` (R226). -/
def execRlH (s : State) : Result := rotateOperand .rl .h s
/-- `RL L` (R226). -/
def execRlL (s : State) : Result := rotateOperand .rl .l s
/-- `RL (HL)` (R226). -/
def execRlAtHL (s : State) : Result := rotateOperand .rl .atHL s
/-- `RL A` (R226). -/
def execRlA (s : State) : Result := rotateOperand .rl .a s
/-- `RR B` (R227). -/
def execRrB (s : State) : Result := rotateOperand .rr .b s
/-- `RR C` (R227). -/
def execRrC (s : State) : Result := rotateOperand .rr .c s
/-- `RR D` (R227). -/
def execRrD (s : State) : Result := rotateOperand .rr .d s
/-- `RR E` (R227). -/
def execRrE (s : State) : Result := rotateOperand .rr .e s
/-- `RR H` (R227). -/
def execRrH (s : State) : Result := rotateOperand .rr .h s
/-- `RR L` (R227). -/
def execRrL (s : State) : Result := rotateOperand .rr .l s
/-- `RR (HL)` (R227). -/
def execRrAtHL (s : State) : Result := rotateOperand .rr .atHL s
/-- `RR A` (R227). -/
def execRrA (s : State) : Result := rotateOperand .rr .a s
/-- `SLA B` (R228). -/
def execSlaB (s : State) : Result := rotateOperand .sla .b s
/-- `SLA C` (R228). -/
def execSlaC (s : State) : Result := rotateOperand .sla .c s
/-- `SLA D` (R228). -/
def execSlaD (s : State) : Result := rotateOperand .sla .d s
/-- `SLA E` (R228). -/
def execSlaE (s : State) : Result := rotateOperand .sla .e s
/-- `SLA H` (R228). -/
def execSlaH (s : State) : Result := rotateOperand .sla .h s
/-- `SLA L` (R228). -/
def execSlaL (s : State) : Result := rotateOperand .sla .l s
/-- `SLA (HL)` (R228). -/
def execSlaAtHL (s : State) : Result := rotateOperand .sla .atHL s
/-- `SLA A` (R228). -/
def execSlaA (s : State) : Result := rotateOperand .sla .a s
/-- `SRA B` (R229). -/
def execSraB (s : State) : Result := rotateOperand .sra .b s
/-- `SRA C` (R229). -/
def execSraC (s : State) : Result := rotateOperand .sra .c s
/-- `SRA D` (R229). -/
def execSraD (s : State) : Result := rotateOperand .sra .d s
/-- `SRA E` (R229). -/
def execSraE (s : State) : Result := rotateOperand .sra .e s
/-- `SRA H` (R229). -/
def execSraH (s : State) : Result := rotateOperand .sra .h s
/-- `SRA L` (R229). -/
def execSraL (s : State) : Result := rotateOperand .sra .l s
/-- `SRA (HL)` (R229). -/
def execSraAtHL (s : State) : Result := rotateOperand .sra .atHL s
/-- `SRA A` (R229). -/
def execSraA (s : State) : Result := rotateOperand .sra .a s
/-- `SWAP B` (R230). -/
def execSwapB (s : State) : Result := rotateOperand .swap .b s
/-- `SWAP C` (R230). -/
def execSwapC (s : State) : Result := rotateOperand .swap .c s
/-- `SWAP D` (R230). -/
def execSwapD (s : State) : Result := rotateOperand .swap .d s
/-- `SWAP E` (R230). -/
def execSwapE (s : State) : Result := rotateOperand .swap .e s
/-- `SWAP H` (R230). -/
def execSwapH (s : State) : Result := rotateOperand .swap .h s
/-- `SWAP L` (R230). -/
def execSwapL (s : State) : Result := rotateOperand .swap .l s
/-- `SWAP (HL)` (R230). -/
def execSwapAtHL (s : State) : Result := rotateOperand .swap .atHL s
/-- `SWAP A` (R230). -/
def execSwapA (s : State) : Result := rotateOperand .swap .a s
/-- `SRL B` (R231). -/
def execSrlB (s : State) : Result := rotateOperand .srl .b s
/-- `SRL C` (R231). -/
def execSrlC (s : State) : Result := rotateOperand .srl .c s
/-- `SRL D` (R231). -/
def execSrlD (s : State) : Result := rotateOperand .srl .d s
/-- `SRL E` (R231). -/
def execSrlE (s : State) : Result := rotateOperand .srl .e s
/-- `SRL H` (R231). -/
def execSrlH (s : State) : Result := rotateOperand .srl .h s
/-- `SRL L` (R231). -/
def execSrlL (s : State) : Result := rotateOperand .srl .l s
/-- `SRL (HL)` (R231). -/
def execSrlAtHL (s : State) : Result := rotateOperand .srl .atHL s
/-- `SRL A` (R231). -/
def execSrlA (s : State) : Result := rotateOperand .srl .a s

end Sys2Proof.Machine
end

