-- ==== Sys2Proof/Machine/System.lean ====
section
/-! DEFINITION. System instructions and unknown opcodes (46_system.md R270 to R276). -/

namespace Sys2Proof.Machine

/-- `NOP` and `STOP`, which is a 2-byte no-op (R270, R271). -/
def noOperation (length : Nat) (s : State) : Result := .next (advance length s)

/-- `HALT` (R272). -/
def haltCore (s : State) : Result := .next (advance 1 { s with halted := true })

/-- `DI` (R273): at once, and a pending enable is cancelled. -/
def disableInterrupts (s : State) : Result := .next (advance 1 { s with ime := false, imeDelay := .inactive })

/-- `EI` (R274): arms the delay; `IME` itself is not written. -/
def enableInterrupts (s : State) : Result := .next (advance 1 { s with imeDelay := .armed })

/-- An unknown opcode (R275): a 1-byte no-op with one diagnostic event. -/
def unknownOpcode (opcode : Byte) (s : State) : Result := .next (advance 1 (emit (.unknownOpcode opcode s.pc) s))

/-! ### One meaning per instruction -/

/-- `NOP` (R270). -/
def execNop (s : State) : Result := noOperation 1 s
/-- `STOP n` (R271). -/
def execStopN (_n : Byte) (s : State) : Result := noOperation 2 s
/-- `HALT` (R272). -/
def execHalt (s : State) : Result := haltCore s
/-- `(unknown opcode 0xD3)` (R275). -/
def execUnknownD3 (s : State) : Result := unknownOpcode 0xD3 s
/-- `(unknown opcode 0xDB)` (R275). -/
def execUnknownDB (s : State) : Result := unknownOpcode 0xDB s
/-- `(unknown opcode 0xDD)` (R275). -/
def execUnknownDD (s : State) : Result := unknownOpcode 0xDD s
/-- `(unknown opcode 0xE3)` (R275). -/
def execUnknownE3 (s : State) : Result := unknownOpcode 0xE3 s
/-- `(unknown opcode 0xE4)` (R275). -/
def execUnknownE4 (s : State) : Result := unknownOpcode 0xE4 s
/-- `(unknown opcode 0xEB)` (R275). -/
def execUnknownEB (s : State) : Result := unknownOpcode 0xEB s
/-- `(unknown opcode 0xEC)` (R275). -/
def execUnknownEC (s : State) : Result := unknownOpcode 0xEC s
/-- `(unknown opcode 0xED)` (R275). -/
def execUnknownED (s : State) : Result := unknownOpcode 0xED s
/-- `DI` (R273). -/
def execDi (s : State) : Result := disableInterrupts s
/-- `(unknown opcode 0xF4)` (R275). -/
def execUnknownF4 (s : State) : Result := unknownOpcode 0xF4 s
/-- `EI` (R274). -/
def execEi (s : State) : Result := enableInterrupts s
/-- `(unknown opcode 0xFC)` (R275). -/
def execUnknownFC (s : State) : Result := unknownOpcode 0xFC s
/-- `(unknown opcode 0xFD)` (R275). -/
def execUnknownFD (s : State) : Result := unknownOpcode 0xFD s

end Sys2Proof.Machine
end

