-- ==== Sys2Proof/Syntax.lean ====
section
/-! DEFINITION. The instruction set: one constructor per row of spec/opcode_table.json (30_encoding.md R109 to R112,
R117). Operands are the immediates of R102 to R104: `n` the unsigned byte 1, `e` the signed reading of byte 1, `nn` the
16-bit immediate; STOP carries the byte it skips (R114). -/

namespace Sys2Proof

/-- The 511 instructions; the comment of each gives the spec's mnemonic and its opcode bytes.
The rows with an immediate stand first (Lean's compiler numbers constructors that carry data in one byte), then the others,
each in the table's order. -/
inductive Instr where
  | ldBCNn (nn : Word) -- LD BC,nn: 0x01
  | ldBN (n : Byte) -- LD B,n: 0x06
  | ldAtNnSP (nn : Word) -- LD (nn),SP: 0x08
  | ldCN (n : Byte) -- LD C,n: 0x0E
  | stopN (n : Byte) -- STOP n: 0x10
  | ldDENn (nn : Word) -- LD DE,nn: 0x11
  | ldDN (n : Byte) -- LD D,n: 0x16
  | jrE (e : Int) -- JR e: 0x18
  | ldEN (n : Byte) -- LD E,n: 0x1E
  | jrNZE (e : Int) -- JR NZ,e: 0x20
  | ldHLNn (nn : Word) -- LD HL,nn: 0x21
  | ldHN (n : Byte) -- LD H,n: 0x26
  | jrZE (e : Int) -- JR Z,e: 0x28
  | ldLN (n : Byte) -- LD L,n: 0x2E
  | jrNCE (e : Int) -- JR NC,e: 0x30
  | ldSPNn (nn : Word) -- LD SP,nn: 0x31
  | ldAtHLN (n : Byte) -- LD (HL),n: 0x36
  | jrCE (e : Int) -- JR C,e: 0x38
  | ldAN (n : Byte) -- LD A,n: 0x3E
  | jpNZNn (nn : Word) -- JP NZ,nn: 0xC2
  | jpNn (nn : Word) -- JP nn: 0xC3
  | callNZNn (nn : Word) -- CALL NZ,nn: 0xC4
  | addAN (n : Byte) -- ADD A,n: 0xC6
  | jpZNn (nn : Word) -- JP Z,nn: 0xCA
  | callZNn (nn : Word) -- CALL Z,nn: 0xCC
  | callNn (nn : Word) -- CALL nn: 0xCD
  | adcAN (n : Byte) -- ADC A,n: 0xCE
  | jpNCNn (nn : Word) -- JP NC,nn: 0xD2
  | callNCNn (nn : Word) -- CALL NC,nn: 0xD4
  | subN (n : Byte) -- SUB n: 0xD6
  | jpCNn (nn : Word) -- JP C,nn: 0xDA
  | callCNn (nn : Word) -- CALL C,nn: 0xDC
  | sbcAN (n : Byte) -- SBC A,n: 0xDE
  | ldhAtNA (n : Byte) -- LDH (n),A: 0xE0
  | andN (n : Byte) -- AND n: 0xE6
  | addSPE (e : Int) -- ADD SP,e: 0xE8
  | ldAtNnA (nn : Word) -- LD (nn),A: 0xEA
  | xorN (n : Byte) -- XOR n: 0xEE
  | ldhAAtN (n : Byte) -- LDH A,(n): 0xF0
  | orN (n : Byte) -- OR n: 0xF6
  | ldHLSPE (e : Int) -- LD HL,SP+e: 0xF8
  | ldAAtNn (nn : Word) -- LD A,(nn): 0xFA
  | cpN (n : Byte) -- CP n: 0xFE
  | nop -- NOP: 0x00
  | ldAtBCA -- LD (BC),A: 0x02
  | incBC -- INC BC: 0x03
  | incB -- INC B: 0x04
  | decB -- DEC B: 0x05
  | rlca -- RLCA: 0x07
  | addHLBC -- ADD HL,BC: 0x09
  | ldAAtBC -- LD A,(BC): 0x0A
  | decBC -- DEC BC: 0x0B
  | incC -- INC C: 0x0C
  | decC -- DEC C: 0x0D
  | rrca -- RRCA: 0x0F
  | ldAtDEA -- LD (DE),A: 0x12
  | incDE -- INC DE: 0x13
  | incD -- INC D: 0x14
  | decD -- DEC D: 0x15
  | rla -- RLA: 0x17
  | addHLDE -- ADD HL,DE: 0x19
  | ldAAtDE -- LD A,(DE): 0x1A
  | decDE -- DEC DE: 0x1B
  | incE -- INC E: 0x1C
  | decE -- DEC E: 0x1D
  | rra -- RRA: 0x1F
  | ldAtHLIncA -- LD (HL+),A: 0x22
  | incHL -- INC HL: 0x23
  | incH -- INC H: 0x24
  | decH -- DEC H: 0x25
  | daa -- DAA: 0x27
  | addHLHL -- ADD HL,HL: 0x29
  | ldAAtHLInc -- LD A,(HL+): 0x2A
  | decHL -- DEC HL: 0x2B
  | incL -- INC L: 0x2C
  | decL -- DEC L: 0x2D
  | cpl -- CPL: 0x2F
  | ldAtHLDecA -- LD (HL-),A: 0x32
  | incSP -- INC SP: 0x33
  | incAtHL -- INC (HL): 0x34
  | decAtHL -- DEC (HL): 0x35
  | scf -- SCF: 0x37
  | addHLSP -- ADD HL,SP: 0x39
  | ldAAtHLDec -- LD A,(HL-): 0x3A
  | decSP -- DEC SP: 0x3B
  | incA -- INC A: 0x3C
  | decA -- DEC A: 0x3D
  | ccf -- CCF: 0x3F
  | ldBB -- LD B,B: 0x40
  | ldBC -- LD B,C: 0x41
  | ldBD -- LD B,D: 0x42
  | ldBE -- LD B,E: 0x43
  | ldBH -- LD B,H: 0x44
  | ldBL -- LD B,L: 0x45
  | ldBAtHL -- LD B,(HL): 0x46
  | ldBA -- LD B,A: 0x47
  | ldCB -- LD C,B: 0x48
  | ldCC -- LD C,C: 0x49
  | ldCD -- LD C,D: 0x4A
  | ldCE -- LD C,E: 0x4B
  | ldCH -- LD C,H: 0x4C
  | ldCL -- LD C,L: 0x4D
  | ldCAtHL -- LD C,(HL): 0x4E
  | ldCA -- LD C,A: 0x4F
  | ldDB -- LD D,B: 0x50
  | ldDC -- LD D,C: 0x51
  | ldDD -- LD D,D: 0x52
  | ldDE -- LD D,E: 0x53
  | ldDH -- LD D,H: 0x54
  | ldDL -- LD D,L: 0x55
  | ldDAtHL -- LD D,(HL): 0x56
  | ldDA -- LD D,A: 0x57
  | ldEB -- LD E,B: 0x58
  | ldEC -- LD E,C: 0x59
  | ldED -- LD E,D: 0x5A
  | ldEE -- LD E,E: 0x5B
  | ldEH -- LD E,H: 0x5C
  | ldEL -- LD E,L: 0x5D
  | ldEAtHL -- LD E,(HL): 0x5E
  | ldEA -- LD E,A: 0x5F
  | ldHB -- LD H,B: 0x60
  | ldHC -- LD H,C: 0x61
  | ldHD -- LD H,D: 0x62
  | ldHE -- LD H,E: 0x63
  | ldHH -- LD H,H: 0x64
  | ldHL -- LD H,L: 0x65
  | ldHAtHL -- LD H,(HL): 0x66
  | ldHA -- LD H,A: 0x67
  | ldLB -- LD L,B: 0x68
  | ldLC -- LD L,C: 0x69
  | ldLD -- LD L,D: 0x6A
  | ldLE -- LD L,E: 0x6B
  | ldLH -- LD L,H: 0x6C
  | ldLL -- LD L,L: 0x6D
  | ldLAtHL -- LD L,(HL): 0x6E
  | ldLA -- LD L,A: 0x6F
  | ldAtHLB -- LD (HL),B: 0x70
  | ldAtHLC -- LD (HL),C: 0x71
  | ldAtHLD -- LD (HL),D: 0x72
  | ldAtHLE -- LD (HL),E: 0x73
  | ldAtHLH -- LD (HL),H: 0x74
  | ldAtHLL -- LD (HL),L: 0x75
  | halt -- HALT: 0x76
  | ldAtHLA -- LD (HL),A: 0x77
  | ldAB -- LD A,B: 0x78
  | ldAC -- LD A,C: 0x79
  | ldAD -- LD A,D: 0x7A
  | ldAE -- LD A,E: 0x7B
  | ldAH -- LD A,H: 0x7C
  | ldAL -- LD A,L: 0x7D
  | ldAAtHL -- LD A,(HL): 0x7E
  | ldAA -- LD A,A: 0x7F
  | addAB -- ADD A,B: 0x80
  | addAC -- ADD A,C: 0x81
  | addAD -- ADD A,D: 0x82
  | addAE -- ADD A,E: 0x83
  | addAH -- ADD A,H: 0x84
  | addAL -- ADD A,L: 0x85
  | addAAtHL -- ADD A,(HL): 0x86
  | addAA -- ADD A,A: 0x87
  | adcAB -- ADC A,B: 0x88
  | adcAC -- ADC A,C: 0x89
  | adcAD -- ADC A,D: 0x8A
  | adcAE -- ADC A,E: 0x8B
  | adcAH -- ADC A,H: 0x8C
  | adcAL -- ADC A,L: 0x8D
  | adcAAtHL -- ADC A,(HL): 0x8E
  | adcAA -- ADC A,A: 0x8F
  | subB -- SUB B: 0x90
  | subC -- SUB C: 0x91
  | subD -- SUB D: 0x92
  | subE -- SUB E: 0x93
  | subH -- SUB H: 0x94
  | subL -- SUB L: 0x95
  | subAtHL -- SUB (HL): 0x96
  | subA -- SUB A: 0x97
  | sbcAB -- SBC A,B: 0x98
  | sbcAC -- SBC A,C: 0x99
  | sbcAD -- SBC A,D: 0x9A
  | sbcAE -- SBC A,E: 0x9B
  | sbcAH -- SBC A,H: 0x9C
  | sbcAL -- SBC A,L: 0x9D
  | sbcAAtHL -- SBC A,(HL): 0x9E
  | sbcAA -- SBC A,A: 0x9F
  | andB -- AND B: 0xA0
  | andC -- AND C: 0xA1
  | andD -- AND D: 0xA2
  | andE -- AND E: 0xA3
  | andH -- AND H: 0xA4
  | andL -- AND L: 0xA5
  | andAtHL -- AND (HL): 0xA6
  | andA -- AND A: 0xA7
  | xorB -- XOR B: 0xA8
  | xorC -- XOR C: 0xA9
  | xorD -- XOR D: 0xAA
  | xorE -- XOR E: 0xAB
  | xorH -- XOR H: 0xAC
  | xorL -- XOR L: 0xAD
  | xorAtHL -- XOR (HL): 0xAE
  | xorA -- XOR A: 0xAF
  | orB -- OR B: 0xB0
  | orC -- OR C: 0xB1
  | orD -- OR D: 0xB2
  | orE -- OR E: 0xB3
  | orH -- OR H: 0xB4
  | orL -- OR L: 0xB5
  | orAtHL -- OR (HL): 0xB6
  | orA -- OR A: 0xB7
  | cpB -- CP B: 0xB8
  | cpC -- CP C: 0xB9
  | cpD -- CP D: 0xBA
  | cpE -- CP E: 0xBB
  | cpH -- CP H: 0xBC
  | cpL -- CP L: 0xBD
  | cpAtHL -- CP (HL): 0xBE
  | cpA -- CP A: 0xBF
  | retNZ -- RET NZ: 0xC0
  | popBC -- POP BC: 0xC1
  | pushBC -- PUSH BC: 0xC5
  | rst00 -- RST 00: 0xC7
  | retZ -- RET Z: 0xC8
  | ret -- RET: 0xC9
  | rst08 -- RST 08: 0xCF
  | retNC -- RET NC: 0xD0
  | popDE -- POP DE: 0xD1
  | unknownD3 -- (unknown opcode 0xD3): 0xD3
  | pushDE -- PUSH DE: 0xD5
  | rst10 -- RST 10: 0xD7
  | retC -- RET C: 0xD8
  | reti -- RETI: 0xD9
  | unknownDB -- (unknown opcode 0xDB): 0xDB
  | unknownDD -- (unknown opcode 0xDD): 0xDD
  | rst18 -- RST 18: 0xDF
  | popHL -- POP HL: 0xE1
  | ldAtCA -- LD (C),A: 0xE2
  | unknownE3 -- (unknown opcode 0xE3): 0xE3
  | unknownE4 -- (unknown opcode 0xE4): 0xE4
  | pushHL -- PUSH HL: 0xE5
  | rst20 -- RST 20: 0xE7
  | jpAtHL -- JP (HL): 0xE9
  | unknownEB -- (unknown opcode 0xEB): 0xEB
  | unknownEC -- (unknown opcode 0xEC): 0xEC
  | unknownED -- (unknown opcode 0xED): 0xED
  | rst28 -- RST 28: 0xEF
  | popAF -- POP AF: 0xF1
  | ldAAtC -- LD A,(C): 0xF2
  | di -- DI: 0xF3
  | unknownF4 -- (unknown opcode 0xF4): 0xF4
  | pushAF -- PUSH AF: 0xF5
  | rst30 -- RST 30: 0xF7
  | ldSPHL -- LD SP,HL: 0xF9
  | ei -- EI: 0xFB
  | unknownFC -- (unknown opcode 0xFC): 0xFC
  | unknownFD -- (unknown opcode 0xFD): 0xFD
  | rst38 -- RST 38: 0xFF
  | rlcB -- RLC B: 0xCB 0x00
  | rlcC -- RLC C: 0xCB 0x01
  | rlcD -- RLC D: 0xCB 0x02
  | rlcE -- RLC E: 0xCB 0x03
  | rlcH -- RLC H: 0xCB 0x04
  | rlcL -- RLC L: 0xCB 0x05
  | rlcAtHL -- RLC (HL): 0xCB 0x06
  | rlcA -- RLC A: 0xCB 0x07
  | rrcB -- RRC B: 0xCB 0x08
  | rrcC -- RRC C: 0xCB 0x09
  | rrcD -- RRC D: 0xCB 0x0A
  | rrcE -- RRC E: 0xCB 0x0B
  | rrcH -- RRC H: 0xCB 0x0C
  | rrcL -- RRC L: 0xCB 0x0D
  | rrcAtHL -- RRC (HL): 0xCB 0x0E
  | rrcA -- RRC A: 0xCB 0x0F
  | rlB -- RL B: 0xCB 0x10
  | rlC -- RL C: 0xCB 0x11
  | rlD -- RL D: 0xCB 0x12
  | rlE -- RL E: 0xCB 0x13
  | rlH -- RL H: 0xCB 0x14
  | rlL -- RL L: 0xCB 0x15
  | rlAtHL -- RL (HL): 0xCB 0x16
  | rlA -- RL A: 0xCB 0x17
  | rrB -- RR B: 0xCB 0x18
  | rrC -- RR C: 0xCB 0x19
  | rrD -- RR D: 0xCB 0x1A
  | rrE -- RR E: 0xCB 0x1B
  | rrH -- RR H: 0xCB 0x1C
  | rrL -- RR L: 0xCB 0x1D
  | rrAtHL -- RR (HL): 0xCB 0x1E
  | rrA -- RR A: 0xCB 0x1F
  | slaB -- SLA B: 0xCB 0x20
  | slaC -- SLA C: 0xCB 0x21
  | slaD -- SLA D: 0xCB 0x22
  | slaE -- SLA E: 0xCB 0x23
  | slaH -- SLA H: 0xCB 0x24
  | slaL -- SLA L: 0xCB 0x25
  | slaAtHL -- SLA (HL): 0xCB 0x26
  | slaA -- SLA A: 0xCB 0x27
  | sraB -- SRA B: 0xCB 0x28
  | sraC -- SRA C: 0xCB 0x29
  | sraD -- SRA D: 0xCB 0x2A
  | sraE -- SRA E: 0xCB 0x2B
  | sraH -- SRA H: 0xCB 0x2C
  | sraL -- SRA L: 0xCB 0x2D
  | sraAtHL -- SRA (HL): 0xCB 0x2E
  | sraA -- SRA A: 0xCB 0x2F
  | swapB -- SWAP B: 0xCB 0x30
  | swapC -- SWAP C: 0xCB 0x31
  | swapD -- SWAP D: 0xCB 0x32
  | swapE -- SWAP E: 0xCB 0x33
  | swapH -- SWAP H: 0xCB 0x34
  | swapL -- SWAP L: 0xCB 0x35
  | swapAtHL -- SWAP (HL): 0xCB 0x36
  | swapA -- SWAP A: 0xCB 0x37
  | srlB -- SRL B: 0xCB 0x38
  | srlC -- SRL C: 0xCB 0x39
  | srlD -- SRL D: 0xCB 0x3A
  | srlE -- SRL E: 0xCB 0x3B
  | srlH -- SRL H: 0xCB 0x3C
  | srlL -- SRL L: 0xCB 0x3D
  | srlAtHL -- SRL (HL): 0xCB 0x3E
  | srlA -- SRL A: 0xCB 0x3F
  | bit0B -- BIT 0,B: 0xCB 0x40
  | bit0C -- BIT 0,C: 0xCB 0x41
  | bit0D -- BIT 0,D: 0xCB 0x42
  | bit0E -- BIT 0,E: 0xCB 0x43
  | bit0H -- BIT 0,H: 0xCB 0x44
  | bit0L -- BIT 0,L: 0xCB 0x45
  | bit0AtHL -- BIT 0,(HL): 0xCB 0x46
  | bit0A -- BIT 0,A: 0xCB 0x47
  | bit1B -- BIT 1,B: 0xCB 0x48
  | bit1C -- BIT 1,C: 0xCB 0x49
  | bit1D -- BIT 1,D: 0xCB 0x4A
  | bit1E -- BIT 1,E: 0xCB 0x4B
  | bit1H -- BIT 1,H: 0xCB 0x4C
  | bit1L -- BIT 1,L: 0xCB 0x4D
  | bit1AtHL -- BIT 1,(HL): 0xCB 0x4E
  | bit1A -- BIT 1,A: 0xCB 0x4F
  | bit2B -- BIT 2,B: 0xCB 0x50
  | bit2C -- BIT 2,C: 0xCB 0x51
  | bit2D -- BIT 2,D: 0xCB 0x52
  | bit2E -- BIT 2,E: 0xCB 0x53
  | bit2H -- BIT 2,H: 0xCB 0x54
  | bit2L -- BIT 2,L: 0xCB 0x55
  | bit2AtHL -- BIT 2,(HL): 0xCB 0x56
  | bit2A -- BIT 2,A: 0xCB 0x57
  | bit3B -- BIT 3,B: 0xCB 0x58
  | bit3C -- BIT 3,C: 0xCB 0x59
  | bit3D -- BIT 3,D: 0xCB 0x5A
  | bit3E -- BIT 3,E: 0xCB 0x5B
  | bit3H -- BIT 3,H: 0xCB 0x5C
  | bit3L -- BIT 3,L: 0xCB 0x5D
  | bit3AtHL -- BIT 3,(HL): 0xCB 0x5E
  | bit3A -- BIT 3,A: 0xCB 0x5F
  | bit4B -- BIT 4,B: 0xCB 0x60
  | bit4C -- BIT 4,C: 0xCB 0x61
  | bit4D -- BIT 4,D: 0xCB 0x62
  | bit4E -- BIT 4,E: 0xCB 0x63
  | bit4H -- BIT 4,H: 0xCB 0x64
  | bit4L -- BIT 4,L: 0xCB 0x65
  | bit4AtHL -- BIT 4,(HL): 0xCB 0x66
  | bit4A -- BIT 4,A: 0xCB 0x67
  | bit5B -- BIT 5,B: 0xCB 0x68
  | bit5C -- BIT 5,C: 0xCB 0x69
  | bit5D -- BIT 5,D: 0xCB 0x6A
  | bit5E -- BIT 5,E: 0xCB 0x6B
  | bit5H -- BIT 5,H: 0xCB 0x6C
  | bit5L -- BIT 5,L: 0xCB 0x6D
  | bit5AtHL -- BIT 5,(HL): 0xCB 0x6E
  | bit5A -- BIT 5,A: 0xCB 0x6F
  | bit6B -- BIT 6,B: 0xCB 0x70
  | bit6C -- BIT 6,C: 0xCB 0x71
  | bit6D -- BIT 6,D: 0xCB 0x72
  | bit6E -- BIT 6,E: 0xCB 0x73
  | bit6H -- BIT 6,H: 0xCB 0x74
  | bit6L -- BIT 6,L: 0xCB 0x75
  | bit6AtHL -- BIT 6,(HL): 0xCB 0x76
  | bit6A -- BIT 6,A: 0xCB 0x77
  | bit7B -- BIT 7,B: 0xCB 0x78
  | bit7C -- BIT 7,C: 0xCB 0x79
  | bit7D -- BIT 7,D: 0xCB 0x7A
  | bit7E -- BIT 7,E: 0xCB 0x7B
  | bit7H -- BIT 7,H: 0xCB 0x7C
  | bit7L -- BIT 7,L: 0xCB 0x7D
  | bit7AtHL -- BIT 7,(HL): 0xCB 0x7E
  | bit7A -- BIT 7,A: 0xCB 0x7F
  | res0B -- RES 0,B: 0xCB 0x80
  | res0C -- RES 0,C: 0xCB 0x81
  | res0D -- RES 0,D: 0xCB 0x82
  | res0E -- RES 0,E: 0xCB 0x83
  | res0H -- RES 0,H: 0xCB 0x84
  | res0L -- RES 0,L: 0xCB 0x85
  | res0AtHL -- RES 0,(HL): 0xCB 0x86
  | res0A -- RES 0,A: 0xCB 0x87
  | res1B -- RES 1,B: 0xCB 0x88
  | res1C -- RES 1,C: 0xCB 0x89
  | res1D -- RES 1,D: 0xCB 0x8A
  | res1E -- RES 1,E: 0xCB 0x8B
  | res1H -- RES 1,H: 0xCB 0x8C
  | res1L -- RES 1,L: 0xCB 0x8D
  | res1AtHL -- RES 1,(HL): 0xCB 0x8E
  | res1A -- RES 1,A: 0xCB 0x8F
  | res2B -- RES 2,B: 0xCB 0x90
  | res2C -- RES 2,C: 0xCB 0x91
  | res2D -- RES 2,D: 0xCB 0x92
  | res2E -- RES 2,E: 0xCB 0x93
  | res2H -- RES 2,H: 0xCB 0x94
  | res2L -- RES 2,L: 0xCB 0x95
  | res2AtHL -- RES 2,(HL): 0xCB 0x96
  | res2A -- RES 2,A: 0xCB 0x97
  | res3B -- RES 3,B: 0xCB 0x98
  | res3C -- RES 3,C: 0xCB 0x99
  | res3D -- RES 3,D: 0xCB 0x9A
  | res3E -- RES 3,E: 0xCB 0x9B
  | res3H -- RES 3,H: 0xCB 0x9C
  | res3L -- RES 3,L: 0xCB 0x9D
  | res3AtHL -- RES 3,(HL): 0xCB 0x9E
  | res3A -- RES 3,A: 0xCB 0x9F
  | res4B -- RES 4,B: 0xCB 0xA0
  | res4C -- RES 4,C: 0xCB 0xA1
  | res4D -- RES 4,D: 0xCB 0xA2
  | res4E -- RES 4,E: 0xCB 0xA3
  | res4H -- RES 4,H: 0xCB 0xA4
  | res4L -- RES 4,L: 0xCB 0xA5
  | res4AtHL -- RES 4,(HL): 0xCB 0xA6
  | res4A -- RES 4,A: 0xCB 0xA7
  | res5B -- RES 5,B: 0xCB 0xA8
  | res5C -- RES 5,C: 0xCB 0xA9
  | res5D -- RES 5,D: 0xCB 0xAA
  | res5E -- RES 5,E: 0xCB 0xAB
  | res5H -- RES 5,H: 0xCB 0xAC
  | res5L -- RES 5,L: 0xCB 0xAD
  | res5AtHL -- RES 5,(HL): 0xCB 0xAE
  | res5A -- RES 5,A: 0xCB 0xAF
  | res6B -- RES 6,B: 0xCB 0xB0
  | res6C -- RES 6,C: 0xCB 0xB1
  | res6D -- RES 6,D: 0xCB 0xB2
  | res6E -- RES 6,E: 0xCB 0xB3
  | res6H -- RES 6,H: 0xCB 0xB4
  | res6L -- RES 6,L: 0xCB 0xB5
  | res6AtHL -- RES 6,(HL): 0xCB 0xB6
  | res6A -- RES 6,A: 0xCB 0xB7
  | res7B -- RES 7,B: 0xCB 0xB8
  | res7C -- RES 7,C: 0xCB 0xB9
  | res7D -- RES 7,D: 0xCB 0xBA
  | res7E -- RES 7,E: 0xCB 0xBB
  | res7H -- RES 7,H: 0xCB 0xBC
  | res7L -- RES 7,L: 0xCB 0xBD
  | res7AtHL -- RES 7,(HL): 0xCB 0xBE
  | res7A -- RES 7,A: 0xCB 0xBF
  | set0B -- SET 0,B: 0xCB 0xC0
  | set0C -- SET 0,C: 0xCB 0xC1
  | set0D -- SET 0,D: 0xCB 0xC2
  | set0E -- SET 0,E: 0xCB 0xC3
  | set0H -- SET 0,H: 0xCB 0xC4
  | set0L -- SET 0,L: 0xCB 0xC5
  | set0AtHL -- SET 0,(HL): 0xCB 0xC6
  | set0A -- SET 0,A: 0xCB 0xC7
  | set1B -- SET 1,B: 0xCB 0xC8
  | set1C -- SET 1,C: 0xCB 0xC9
  | set1D -- SET 1,D: 0xCB 0xCA
  | set1E -- SET 1,E: 0xCB 0xCB
  | set1H -- SET 1,H: 0xCB 0xCC
  | set1L -- SET 1,L: 0xCB 0xCD
  | set1AtHL -- SET 1,(HL): 0xCB 0xCE
  | set1A -- SET 1,A: 0xCB 0xCF
  | set2B -- SET 2,B: 0xCB 0xD0
  | set2C -- SET 2,C: 0xCB 0xD1
  | set2D -- SET 2,D: 0xCB 0xD2
  | set2E -- SET 2,E: 0xCB 0xD3
  | set2H -- SET 2,H: 0xCB 0xD4
  | set2L -- SET 2,L: 0xCB 0xD5
  | set2AtHL -- SET 2,(HL): 0xCB 0xD6
  | set2A -- SET 2,A: 0xCB 0xD7
  | set3B -- SET 3,B: 0xCB 0xD8
  | set3C -- SET 3,C: 0xCB 0xD9
  | set3D -- SET 3,D: 0xCB 0xDA
  | set3E -- SET 3,E: 0xCB 0xDB
  | set3H -- SET 3,H: 0xCB 0xDC
  | set3L -- SET 3,L: 0xCB 0xDD
  | set3AtHL -- SET 3,(HL): 0xCB 0xDE
  | set3A -- SET 3,A: 0xCB 0xDF
  | set4B -- SET 4,B: 0xCB 0xE0
  | set4C -- SET 4,C: 0xCB 0xE1
  | set4D -- SET 4,D: 0xCB 0xE2
  | set4E -- SET 4,E: 0xCB 0xE3
  | set4H -- SET 4,H: 0xCB 0xE4
  | set4L -- SET 4,L: 0xCB 0xE5
  | set4AtHL -- SET 4,(HL): 0xCB 0xE6
  | set4A -- SET 4,A: 0xCB 0xE7
  | set5B -- SET 5,B: 0xCB 0xE8
  | set5C -- SET 5,C: 0xCB 0xE9
  | set5D -- SET 5,D: 0xCB 0xEA
  | set5E -- SET 5,E: 0xCB 0xEB
  | set5H -- SET 5,H: 0xCB 0xEC
  | set5L -- SET 5,L: 0xCB 0xED
  | set5AtHL -- SET 5,(HL): 0xCB 0xEE
  | set5A -- SET 5,A: 0xCB 0xEF
  | set6B -- SET 6,B: 0xCB 0xF0
  | set6C -- SET 6,C: 0xCB 0xF1
  | set6D -- SET 6,D: 0xCB 0xF2
  | set6E -- SET 6,E: 0xCB 0xF3
  | set6H -- SET 6,H: 0xCB 0xF4
  | set6L -- SET 6,L: 0xCB 0xF5
  | set6AtHL -- SET 6,(HL): 0xCB 0xF6
  | set6A -- SET 6,A: 0xCB 0xF7
  | set7B -- SET 7,B: 0xCB 0xF8
  | set7C -- SET 7,C: 0xCB 0xF9
  | set7D -- SET 7,D: 0xCB 0xFA
  | set7E -- SET 7,E: 0xCB 0xFB
  | set7H -- SET 7,H: 0xCB 0xFC
  | set7L -- SET 7,L: 0xCB 0xFD
  | set7AtHL -- SET 7,(HL): 0xCB 0xFE
  | set7A -- SET 7,A: 0xCB 0xFF
deriving DecidableEq, Repr

end Sys2Proof
end

