-- ==== Sys2Proof/WellFormed.lean ====
section
/-! DEFINITION. Which instructions have an encoding. Every operand is of the exact width of its field but the signed
offset `e` of JR, ADD SP,e and LD HL,SP+e, which byte 1 can hold only from -128 to 127 (30_encoding.md R103); "There are
no ... reserved operand values (every value of every field is used)" (R112). -/

namespace Sys2Proof

/-- R103: `e` fits the two's-complement reading of byte 1. -/
def offsetFits (e : Int) : Bool := decide (-128 ≤ e) && decide (e ≤ 127)

/-- The signed offset of an instruction, if it has one. -/
def Instr.offset? : Instr → Option Int
  | .jrE e => some e
  | .jrNZE e => some e
  | .jrZE e => some e
  | .jrNCE e => some e
  | .jrCE e => some e
  | .addSPE e => some e
  | .ldHLSPE e => some e
  | _ => none

/-- The checks an instruction must pass to have an encoding. -/
def WellFormed (i : Instr) : Bool :=
  match i.offset? with
  | some e => offsetFits e
  | none => true

end Sys2Proof
end

