-- ==== Sys2Proof/Decode.lean ====
section
/-! DEFINITION. Decoding (30_encoding.md R100 to R115), total on any three bytes, and after it the encoder from the same
tables. The blocks of R106 to R108 are functions of their operand fields; the two quadrants of fixed opcodes follow R109
and R110. -/

namespace Sys2Proof

/-! ### The regular blocks (R106 to R108) -/

/-- R106: `LD r8[d], r8[s]`, and HALT where both operands would be `(HL)` (R114). -/
def ldBlock : Operand8 → Operand8 → Instr
  | .b, .b => .ldBB
  | .b, .c => .ldBC
  | .b, .d => .ldBD
  | .b, .e => .ldBE
  | .b, .h => .ldBH
  | .b, .l => .ldBL
  | .b, .atHL => .ldBAtHL
  | .b, .a => .ldBA
  | .c, .b => .ldCB
  | .c, .c => .ldCC
  | .c, .d => .ldCD
  | .c, .e => .ldCE
  | .c, .h => .ldCH
  | .c, .l => .ldCL
  | .c, .atHL => .ldCAtHL
  | .c, .a => .ldCA
  | .d, .b => .ldDB
  | .d, .c => .ldDC
  | .d, .d => .ldDD
  | .d, .e => .ldDE
  | .d, .h => .ldDH
  | .d, .l => .ldDL
  | .d, .atHL => .ldDAtHL
  | .d, .a => .ldDA
  | .e, .b => .ldEB
  | .e, .c => .ldEC
  | .e, .d => .ldED
  | .e, .e => .ldEE
  | .e, .h => .ldEH
  | .e, .l => .ldEL
  | .e, .atHL => .ldEAtHL
  | .e, .a => .ldEA
  | .h, .b => .ldHB
  | .h, .c => .ldHC
  | .h, .d => .ldHD
  | .h, .e => .ldHE
  | .h, .h => .ldHH
  | .h, .l => .ldHL
  | .h, .atHL => .ldHAtHL
  | .h, .a => .ldHA
  | .l, .b => .ldLB
  | .l, .c => .ldLC
  | .l, .d => .ldLD
  | .l, .e => .ldLE
  | .l, .h => .ldLH
  | .l, .l => .ldLL
  | .l, .atHL => .ldLAtHL
  | .l, .a => .ldLA
  | .atHL, .b => .ldAtHLB
  | .atHL, .c => .ldAtHLC
  | .atHL, .d => .ldAtHLD
  | .atHL, .e => .ldAtHLE
  | .atHL, .h => .ldAtHLH
  | .atHL, .l => .ldAtHLL
  | .atHL, .atHL => .halt
  | .atHL, .a => .ldAtHLA
  | .a, .b => .ldAB
  | .a, .c => .ldAC
  | .a, .d => .ldAD
  | .a, .e => .ldAE
  | .a, .h => .ldAH
  | .a, .l => .ldAL
  | .a, .atHL => .ldAAtHL
  | .a, .a => .ldAA

/-- R107: the ALU operation on `A` and `r8[s]`. -/
def aluBlock : AluOp → Operand8 → Instr
  | .add, .b => .addAB
  | .add, .c => .addAC
  | .add, .d => .addAD
  | .add, .e => .addAE
  | .add, .h => .addAH
  | .add, .l => .addAL
  | .add, .atHL => .addAAtHL
  | .add, .a => .addAA
  | .adc, .b => .adcAB
  | .adc, .c => .adcAC
  | .adc, .d => .adcAD
  | .adc, .e => .adcAE
  | .adc, .h => .adcAH
  | .adc, .l => .adcAL
  | .adc, .atHL => .adcAAtHL
  | .adc, .a => .adcAA
  | .sub, .b => .subB
  | .sub, .c => .subC
  | .sub, .d => .subD
  | .sub, .e => .subE
  | .sub, .h => .subH
  | .sub, .l => .subL
  | .sub, .atHL => .subAtHL
  | .sub, .a => .subA
  | .sbc, .b => .sbcAB
  | .sbc, .c => .sbcAC
  | .sbc, .d => .sbcAD
  | .sbc, .e => .sbcAE
  | .sbc, .h => .sbcAH
  | .sbc, .l => .sbcAL
  | .sbc, .atHL => .sbcAAtHL
  | .sbc, .a => .sbcAA
  | .and, .b => .andB
  | .and, .c => .andC
  | .and, .d => .andD
  | .and, .e => .andE
  | .and, .h => .andH
  | .and, .l => .andL
  | .and, .atHL => .andAtHL
  | .and, .a => .andA
  | .xor, .b => .xorB
  | .xor, .c => .xorC
  | .xor, .d => .xorD
  | .xor, .e => .xorE
  | .xor, .h => .xorH
  | .xor, .l => .xorL
  | .xor, .atHL => .xorAtHL
  | .xor, .a => .xorA
  | .or, .b => .orB
  | .or, .c => .orC
  | .or, .d => .orD
  | .or, .e => .orE
  | .or, .h => .orH
  | .or, .l => .orL
  | .or, .atHL => .orAtHL
  | .or, .a => .orA
  | .cp, .b => .cpB
  | .cp, .c => .cpC
  | .cp, .d => .cpD
  | .cp, .e => .cpE
  | .cp, .h => .cpH
  | .cp, .l => .cpL
  | .cp, .atHL => .cpAtHL
  | .cp, .a => .cpA

/-- R108, group 0: the rotate or shift on `r8[i]`. -/
def rotBlock : RotOp → Operand8 → Instr
  | .rlc, .b => .rlcB
  | .rlc, .c => .rlcC
  | .rlc, .d => .rlcD
  | .rlc, .e => .rlcE
  | .rlc, .h => .rlcH
  | .rlc, .l => .rlcL
  | .rlc, .atHL => .rlcAtHL
  | .rlc, .a => .rlcA
  | .rrc, .b => .rrcB
  | .rrc, .c => .rrcC
  | .rrc, .d => .rrcD
  | .rrc, .e => .rrcE
  | .rrc, .h => .rrcH
  | .rrc, .l => .rrcL
  | .rrc, .atHL => .rrcAtHL
  | .rrc, .a => .rrcA
  | .rl, .b => .rlB
  | .rl, .c => .rlC
  | .rl, .d => .rlD
  | .rl, .e => .rlE
  | .rl, .h => .rlH
  | .rl, .l => .rlL
  | .rl, .atHL => .rlAtHL
  | .rl, .a => .rlA
  | .rr, .b => .rrB
  | .rr, .c => .rrC
  | .rr, .d => .rrD
  | .rr, .e => .rrE
  | .rr, .h => .rrH
  | .rr, .l => .rrL
  | .rr, .atHL => .rrAtHL
  | .rr, .a => .rrA
  | .sla, .b => .slaB
  | .sla, .c => .slaC
  | .sla, .d => .slaD
  | .sla, .e => .slaE
  | .sla, .h => .slaH
  | .sla, .l => .slaL
  | .sla, .atHL => .slaAtHL
  | .sla, .a => .slaA
  | .sra, .b => .sraB
  | .sra, .c => .sraC
  | .sra, .d => .sraD
  | .sra, .e => .sraE
  | .sra, .h => .sraH
  | .sra, .l => .sraL
  | .sra, .atHL => .sraAtHL
  | .sra, .a => .sraA
  | .swap, .b => .swapB
  | .swap, .c => .swapC
  | .swap, .d => .swapD
  | .swap, .e => .swapE
  | .swap, .h => .swapH
  | .swap, .l => .swapL
  | .swap, .atHL => .swapAtHL
  | .swap, .a => .swapA
  | .srl, .b => .srlB
  | .srl, .c => .srlC
  | .srl, .d => .srlD
  | .srl, .e => .srlE
  | .srl, .h => .srlH
  | .srl, .l => .srlL
  | .srl, .atHL => .srlAtHL
  | .srl, .a => .srlA

/-- R108, group 1: BIT 0 on `r8[i]`. -/
def bit0 : Operand8 → Instr
  | .b => .bit0B
  | .c => .bit0C
  | .d => .bit0D
  | .e => .bit0E
  | .h => .bit0H
  | .l => .bit0L
  | .atHL => .bit0AtHL
  | .a => .bit0A

/-- R108, group 1: BIT 1 on `r8[i]`. -/
def bit1 : Operand8 → Instr
  | .b => .bit1B
  | .c => .bit1C
  | .d => .bit1D
  | .e => .bit1E
  | .h => .bit1H
  | .l => .bit1L
  | .atHL => .bit1AtHL
  | .a => .bit1A

/-- R108, group 1: BIT 2 on `r8[i]`. -/
def bit2 : Operand8 → Instr
  | .b => .bit2B
  | .c => .bit2C
  | .d => .bit2D
  | .e => .bit2E
  | .h => .bit2H
  | .l => .bit2L
  | .atHL => .bit2AtHL
  | .a => .bit2A

/-- R108, group 1: BIT 3 on `r8[i]`. -/
def bit3 : Operand8 → Instr
  | .b => .bit3B
  | .c => .bit3C
  | .d => .bit3D
  | .e => .bit3E
  | .h => .bit3H
  | .l => .bit3L
  | .atHL => .bit3AtHL
  | .a => .bit3A

/-- R108, group 1: BIT 4 on `r8[i]`. -/
def bit4 : Operand8 → Instr
  | .b => .bit4B
  | .c => .bit4C
  | .d => .bit4D
  | .e => .bit4E
  | .h => .bit4H
  | .l => .bit4L
  | .atHL => .bit4AtHL
  | .a => .bit4A

/-- R108, group 1: BIT 5 on `r8[i]`. -/
def bit5 : Operand8 → Instr
  | .b => .bit5B
  | .c => .bit5C
  | .d => .bit5D
  | .e => .bit5E
  | .h => .bit5H
  | .l => .bit5L
  | .atHL => .bit5AtHL
  | .a => .bit5A

/-- R108, group 1: BIT 6 on `r8[i]`. -/
def bit6 : Operand8 → Instr
  | .b => .bit6B
  | .c => .bit6C
  | .d => .bit6D
  | .e => .bit6E
  | .h => .bit6H
  | .l => .bit6L
  | .atHL => .bit6AtHL
  | .a => .bit6A

/-- R108, group 1: BIT 7 on `r8[i]`. -/
def bit7 : Operand8 → Instr
  | .b => .bit7B
  | .c => .bit7C
  | .d => .bit7D
  | .e => .bit7E
  | .h => .bit7H
  | .l => .bit7L
  | .atHL => .bit7AtHL
  | .a => .bit7A

/-- R108, group 1: BIT `b` on `r8[i]`. -/
def bitBlock (b : BitVec 3) (r : Operand8) : Instr :=
  match b.toNat with
  | 0 => bit0 r
  | 1 => bit1 r
  | 2 => bit2 r
  | 3 => bit3 r
  | 4 => bit4 r
  | 5 => bit5 r
  | 6 => bit6 r
  | _ => bit7 r

/-- R108, group 2: RES 0 on `r8[i]`. -/
def res0 : Operand8 → Instr
  | .b => .res0B
  | .c => .res0C
  | .d => .res0D
  | .e => .res0E
  | .h => .res0H
  | .l => .res0L
  | .atHL => .res0AtHL
  | .a => .res0A

/-- R108, group 2: RES 1 on `r8[i]`. -/
def res1 : Operand8 → Instr
  | .b => .res1B
  | .c => .res1C
  | .d => .res1D
  | .e => .res1E
  | .h => .res1H
  | .l => .res1L
  | .atHL => .res1AtHL
  | .a => .res1A

/-- R108, group 2: RES 2 on `r8[i]`. -/
def res2 : Operand8 → Instr
  | .b => .res2B
  | .c => .res2C
  | .d => .res2D
  | .e => .res2E
  | .h => .res2H
  | .l => .res2L
  | .atHL => .res2AtHL
  | .a => .res2A

/-- R108, group 2: RES 3 on `r8[i]`. -/
def res3 : Operand8 → Instr
  | .b => .res3B
  | .c => .res3C
  | .d => .res3D
  | .e => .res3E
  | .h => .res3H
  | .l => .res3L
  | .atHL => .res3AtHL
  | .a => .res3A

/-- R108, group 2: RES 4 on `r8[i]`. -/
def res4 : Operand8 → Instr
  | .b => .res4B
  | .c => .res4C
  | .d => .res4D
  | .e => .res4E
  | .h => .res4H
  | .l => .res4L
  | .atHL => .res4AtHL
  | .a => .res4A

/-- R108, group 2: RES 5 on `r8[i]`. -/
def res5 : Operand8 → Instr
  | .b => .res5B
  | .c => .res5C
  | .d => .res5D
  | .e => .res5E
  | .h => .res5H
  | .l => .res5L
  | .atHL => .res5AtHL
  | .a => .res5A

/-- R108, group 2: RES 6 on `r8[i]`. -/
def res6 : Operand8 → Instr
  | .b => .res6B
  | .c => .res6C
  | .d => .res6D
  | .e => .res6E
  | .h => .res6H
  | .l => .res6L
  | .atHL => .res6AtHL
  | .a => .res6A

/-- R108, group 2: RES 7 on `r8[i]`. -/
def res7 : Operand8 → Instr
  | .b => .res7B
  | .c => .res7C
  | .d => .res7D
  | .e => .res7E
  | .h => .res7H
  | .l => .res7L
  | .atHL => .res7AtHL
  | .a => .res7A

/-- R108, group 2: RES `b` on `r8[i]`. -/
def resBlock (b : BitVec 3) (r : Operand8) : Instr :=
  match b.toNat with
  | 0 => res0 r
  | 1 => res1 r
  | 2 => res2 r
  | 3 => res3 r
  | 4 => res4 r
  | 5 => res5 r
  | 6 => res6 r
  | _ => res7 r

/-- R108, group 3: SET 0 on `r8[i]`. -/
def set0 : Operand8 → Instr
  | .b => .set0B
  | .c => .set0C
  | .d => .set0D
  | .e => .set0E
  | .h => .set0H
  | .l => .set0L
  | .atHL => .set0AtHL
  | .a => .set0A

/-- R108, group 3: SET 1 on `r8[i]`. -/
def set1 : Operand8 → Instr
  | .b => .set1B
  | .c => .set1C
  | .d => .set1D
  | .e => .set1E
  | .h => .set1H
  | .l => .set1L
  | .atHL => .set1AtHL
  | .a => .set1A

/-- R108, group 3: SET 2 on `r8[i]`. -/
def set2 : Operand8 → Instr
  | .b => .set2B
  | .c => .set2C
  | .d => .set2D
  | .e => .set2E
  | .h => .set2H
  | .l => .set2L
  | .atHL => .set2AtHL
  | .a => .set2A

/-- R108, group 3: SET 3 on `r8[i]`. -/
def set3 : Operand8 → Instr
  | .b => .set3B
  | .c => .set3C
  | .d => .set3D
  | .e => .set3E
  | .h => .set3H
  | .l => .set3L
  | .atHL => .set3AtHL
  | .a => .set3A

/-- R108, group 3: SET 4 on `r8[i]`. -/
def set4 : Operand8 → Instr
  | .b => .set4B
  | .c => .set4C
  | .d => .set4D
  | .e => .set4E
  | .h => .set4H
  | .l => .set4L
  | .atHL => .set4AtHL
  | .a => .set4A

/-- R108, group 3: SET 5 on `r8[i]`. -/
def set5 : Operand8 → Instr
  | .b => .set5B
  | .c => .set5C
  | .d => .set5D
  | .e => .set5E
  | .h => .set5H
  | .l => .set5L
  | .atHL => .set5AtHL
  | .a => .set5A

/-- R108, group 3: SET 6 on `r8[i]`. -/
def set6 : Operand8 → Instr
  | .b => .set6B
  | .c => .set6C
  | .d => .set6D
  | .e => .set6E
  | .h => .set6H
  | .l => .set6L
  | .atHL => .set6AtHL
  | .a => .set6A

/-- R108, group 3: SET 7 on `r8[i]`. -/
def set7 : Operand8 → Instr
  | .b => .set7B
  | .c => .set7C
  | .d => .set7D
  | .e => .set7E
  | .h => .set7H
  | .l => .set7L
  | .atHL => .set7AtHL
  | .a => .set7A

/-- R108, group 3: SET `b` on `r8[i]`. -/
def setBlock (b : BitVec 3) (r : Operand8) : Instr :=
  match b.toNat with
  | 0 => set0 r
  | 1 => set1 r
  | 2 => set2 r
  | 3 => set3 r
  | 4 => set4 r
  | 5 => set5 r
  | 6 => set6 r
  | _ => set7 r

/-- The CB space (R108): group `s[7:6]`, then the variant or the bit index `s[5:3]` and the operand `s[2:0]`. -/
def cbSpace (s : Byte) : Instr :=
  let y := s.extractLsb' 3 3
  let r := Operand8.ofBits (s.extractLsb' 0 3)
  match (s.extractLsb' 6 2).toNat with
  | 0 => rotBlock (RotOp.ofBits y) r
  | 1 => bitBlock y r
  | 2 => resBlock y r
  | _ => setBlock y r

/-! ### The fixed opcodes by operand field (R105, R109, R110) -/

/-- R109 z=6: `LD r,n`, `LD (HL),n`. -/
def ldImm : Operand8 → Byte → Instr
  | .b, n => .ldBN n
  | .c, n => .ldCN n
  | .d, n => .ldDN n
  | .e, n => .ldEN n
  | .h, n => .ldHN n
  | .l, n => .ldLN n
  | .atHL, n => .ldAtHLN n
  | .a, n => .ldAN n

/-- R109 z=4: `INC r`, `INC (HL)`. -/
def incBlock : Operand8 → Instr
  | .b => .incB
  | .c => .incC
  | .d => .incD
  | .e => .incE
  | .h => .incH
  | .l => .incL
  | .atHL => .incAtHL
  | .a => .incA

/-- R109 z=5: `DEC r`, `DEC (HL)`. -/
def decBlock : Operand8 → Instr
  | .b => .decB
  | .c => .decC
  | .d => .decD
  | .e => .decE
  | .h => .decH
  | .l => .decL
  | .atHL => .decAtHL
  | .a => .decA

/-- R109 z=1, q=0: `LD rp,nn`. -/
def ldPairImm : Pair → Word → Instr
  | .bc, nn => .ldBCNn nn
  | .de, nn => .ldDENn nn
  | .hl, nn => .ldHLNn nn
  | .sp, nn => .ldSPNn nn

/-- R109 z=1, q=1: `ADD HL,rp`. -/
def addHLPair : Pair → Instr
  | .bc => .addHLBC
  | .de => .addHLDE
  | .hl => .addHLHL
  | .sp => .addHLSP

/-- R109 z=3, q=0: `INC rp`. -/
def incPair : Pair → Instr
  | .bc => .incBC
  | .de => .incDE
  | .hl => .incHL
  | .sp => .incSP

/-- R109 z=3, q=1: `DEC rp`. -/
def decPair : Pair → Instr
  | .bc => .decBC
  | .de => .decDE
  | .hl => .decHL
  | .sp => .decSP

/-- R110: `PUSH rp2`. -/
def pushPair : PairAF → Instr
  | .bc => .pushBC
  | .de => .pushDE
  | .hl => .pushHL
  | .af => .pushAF

/-- R110: `POP rp2`. -/
def popPair : PairAF → Instr
  | .bc => .popBC
  | .de => .popDE
  | .hl => .popHL
  | .af => .popAF

/-- R109 z=0, y=4 to 7: `JR cc,e`. -/
def jrCond : Cond → Int → Instr
  | .nz, e => .jrNZE e
  | .z, e => .jrZE e
  | .nc, e => .jrNCE e
  | .c, e => .jrCE e

/-- R110: `JP cc,nn`. -/
def jpCond : Cond → Word → Instr
  | .nz, nn => .jpNZNn nn
  | .z, nn => .jpZNn nn
  | .nc, nn => .jpNCNn nn
  | .c, nn => .jpCNn nn

/-- R110: `CALL cc,nn`. -/
def callCond : Cond → Word → Instr
  | .nz, nn => .callNZNn nn
  | .z, nn => .callZNn nn
  | .nc, nn => .callNCNn nn
  | .c, nn => .callCNn nn

/-- R110: `RET cc`. -/
def retCond : Cond → Instr
  | .nz => .retNZ
  | .z => .retZ
  | .nc => .retNC
  | .c => .retC

/-- R107: the ALU operation on `A` and `n`. -/
def aluImm : AluOp → Byte → Instr
  | .add, n => .addAN n
  | .adc, n => .adcAN n
  | .sub, n => .subN n
  | .sbc, n => .sbcAN n
  | .and, n => .andN n
  | .xor, n => .xorN n
  | .or, n => .orN n
  | .cp, n => .cpN n

/-- R110: `RST t * 8`. -/
def rstBlock (t : BitVec 3) : Instr :=
  match t.toNat with
  | 0 => .rst00
  | 1 => .rst08
  | 2 => .rst10
  | 3 => .rst18
  | 4 => .rst20
  | 5 => .rst28
  | 6 => .rst30
  | _ => .rst38

/-- Quadrant `x = 0`, opcodes 0x00 to 0x3F (R109), by `z`, then `y` or `p` and `q`. -/
def quadrant0 (y z : BitVec 3) (b1 b2 : Byte) : Instr :=
  let p := y.extractLsb' 1 2
  let q := y.getLsbD 0
  let r := Operand8.ofBits y
  match z.toNat with
  | 0 =>
    match y.toNat with
    | 0 => .nop
    | 1 => .ldAtNnSP (join b2 b1)
    | 2 => .stopN b1
    | 3 => .jrE (signedOffset b1)
    | _ => jrCond (Cond.ofBits (y.extractLsb' 0 2)) (signedOffset b1)
  | 1 => if q then addHLPair (Pair.ofBits p) else ldPairImm (Pair.ofBits p) (join b2 b1)
  | 2 =>
    match y.toNat with
    | 0 => .ldAtBCA
    | 1 => .ldAAtBC
    | 2 => .ldAtDEA
    | 3 => .ldAAtDE
    | 4 => .ldAtHLIncA
    | 5 => .ldAAtHLInc
    | 6 => .ldAtHLDecA
    | _ => .ldAAtHLDec
  | 3 => if q then decPair (Pair.ofBits p) else incPair (Pair.ofBits p)
  | 4 => incBlock r
  | 5 => decBlock r
  | 6 => ldImm r b1
  | _ =>
    match y.toNat with
    | 0 => .rlca
    | 1 => .rrca
    | 2 => .rla
    | 3 => .rra
    | 4 => .daa
    | 5 => .cpl
    | 6 => .scf
    | _ => .ccf

/-- Quadrant `x = 3`, opcodes 0xC0 to 0xFF (R110), the prefix 0xCB and the eleven unknown opcodes (R112) included. -/
def quadrant3 (y z : BitVec 3) (b1 b2 : Byte) : Instr :=
  let p := y.extractLsb' 1 2
  let q := y.getLsbD 0
  let cc := Cond.ofBits (y.extractLsb' 0 2)
  match z.toNat with
  | 0 =>
    match y.toNat with
    | 4 => .ldhAtNA b1
    | 5 => .addSPE (signedOffset b1)
    | 6 => .ldhAAtN b1
    | 7 => .ldHLSPE (signedOffset b1)
    | _ => retCond cc
  | 1 =>
    if q then
      match p.toNat with
      | 0 => .ret
      | 1 => .reti
      | 2 => .jpAtHL
      | _ => .ldSPHL
    else popPair (PairAF.ofBits p)
  | 2 =>
    match y.toNat with
    | 4 => .ldAtCA
    | 5 => .ldAtNnA (join b2 b1)
    | 6 => .ldAAtC
    | 7 => .ldAAtNn (join b2 b1)
    | _ => jpCond cc (join b2 b1)
  | 3 =>
    match y.toNat with
    | 0 => .jpNn (join b2 b1)
    | 1 => cbSpace b1
    | 2 => .unknownD3
    | 3 => .unknownDB
    | 4 => .unknownE3
    | 5 => .unknownEB
    | 6 => .di
    | _ => .ei
  | 4 =>
    match y.toNat with
    | 4 => .unknownE4
    | 5 => .unknownEC
    | 6 => .unknownF4
    | 7 => .unknownFC
    | _ => callCond cc (join b2 b1)
  | 5 =>
    if q then
      match p.toNat with
      | 0 => .callNn (join b2 b1)
      | 1 => .unknownDD
      | 2 => .unknownED
      | _ => .unknownFD
    else pushPair (PairAF.ofBits p)
  | 6 => aluImm (AluOp.ofBits y) b1
  | _ => rstBlock y

/-- Decoding (R115): the four-way split on `x = b0[7:6]`, with `y = b0[5:3]` and `z = b0[2:0]`. Total: every value of
`b0`, and of `b1` after 0xCB, selects exactly one instruction. -/
def decode (b0 b1 b2 : Byte) : Instr :=
  let y := b0.extractLsb' 3 3
  let z := b0.extractLsb' 0 3
  match (b0.extractLsb' 6 2).toNat with
  | 0 => quadrant0 y z b1 b2
  | 1 => ldBlock (Operand8.ofBits y) (Operand8.ofBits z)
  | 2 => aluBlock (AluOp.ofBits y) (Operand8.ofBits z)
  | _ => quadrant3 y z b1 b2

/-! ### The encoder -/

/-- The opcode byte, or for the CB space the prefix and the sub-opcode, and then the immediate bytes, low byte first
(R102 to R104). -/
def encode : Instr → List Byte
  | .nop => [0x00]
  | .ldBCNn nn => [0x01, lo8 nn, hi8 nn]
  | .ldAtBCA => [0x02]
  | .incBC => [0x03]
  | .incB => [0x04]
  | .decB => [0x05]
  | .ldBN n => [0x06, n]
  | .rlca => [0x07]
  | .ldAtNnSP nn => [0x08, lo8 nn, hi8 nn]
  | .addHLBC => [0x09]
  | .ldAAtBC => [0x0A]
  | .decBC => [0x0B]
  | .incC => [0x0C]
  | .decC => [0x0D]
  | .ldCN n => [0x0E, n]
  | .rrca => [0x0F]
  | .stopN n => [0x10, n]
  | .ldDENn nn => [0x11, lo8 nn, hi8 nn]
  | .ldAtDEA => [0x12]
  | .incDE => [0x13]
  | .incD => [0x14]
  | .decD => [0x15]
  | .ldDN n => [0x16, n]
  | .rla => [0x17]
  | .jrE e => [0x18, offsetByte e]
  | .addHLDE => [0x19]
  | .ldAAtDE => [0x1A]
  | .decDE => [0x1B]
  | .incE => [0x1C]
  | .decE => [0x1D]
  | .ldEN n => [0x1E, n]
  | .rra => [0x1F]
  | .jrNZE e => [0x20, offsetByte e]
  | .ldHLNn nn => [0x21, lo8 nn, hi8 nn]
  | .ldAtHLIncA => [0x22]
  | .incHL => [0x23]
  | .incH => [0x24]
  | .decH => [0x25]
  | .ldHN n => [0x26, n]
  | .daa => [0x27]
  | .jrZE e => [0x28, offsetByte e]
  | .addHLHL => [0x29]
  | .ldAAtHLInc => [0x2A]
  | .decHL => [0x2B]
  | .incL => [0x2C]
  | .decL => [0x2D]
  | .ldLN n => [0x2E, n]
  | .cpl => [0x2F]
  | .jrNCE e => [0x30, offsetByte e]
  | .ldSPNn nn => [0x31, lo8 nn, hi8 nn]
  | .ldAtHLDecA => [0x32]
  | .incSP => [0x33]
  | .incAtHL => [0x34]
  | .decAtHL => [0x35]
  | .ldAtHLN n => [0x36, n]
  | .scf => [0x37]
  | .jrCE e => [0x38, offsetByte e]
  | .addHLSP => [0x39]
  | .ldAAtHLDec => [0x3A]
  | .decSP => [0x3B]
  | .incA => [0x3C]
  | .decA => [0x3D]
  | .ldAN n => [0x3E, n]
  | .ccf => [0x3F]
  | .ldBB => [0x40]
  | .ldBC => [0x41]
  | .ldBD => [0x42]
  | .ldBE => [0x43]
  | .ldBH => [0x44]
  | .ldBL => [0x45]
  | .ldBAtHL => [0x46]
  | .ldBA => [0x47]
  | .ldCB => [0x48]
  | .ldCC => [0x49]
  | .ldCD => [0x4A]
  | .ldCE => [0x4B]
  | .ldCH => [0x4C]
  | .ldCL => [0x4D]
  | .ldCAtHL => [0x4E]
  | .ldCA => [0x4F]
  | .ldDB => [0x50]
  | .ldDC => [0x51]
  | .ldDD => [0x52]
  | .ldDE => [0x53]
  | .ldDH => [0x54]
  | .ldDL => [0x55]
  | .ldDAtHL => [0x56]
  | .ldDA => [0x57]
  | .ldEB => [0x58]
  | .ldEC => [0x59]
  | .ldED => [0x5A]
  | .ldEE => [0x5B]
  | .ldEH => [0x5C]
  | .ldEL => [0x5D]
  | .ldEAtHL => [0x5E]
  | .ldEA => [0x5F]
  | .ldHB => [0x60]
  | .ldHC => [0x61]
  | .ldHD => [0x62]
  | .ldHE => [0x63]
  | .ldHH => [0x64]
  | .ldHL => [0x65]
  | .ldHAtHL => [0x66]
  | .ldHA => [0x67]
  | .ldLB => [0x68]
  | .ldLC => [0x69]
  | .ldLD => [0x6A]
  | .ldLE => [0x6B]
  | .ldLH => [0x6C]
  | .ldLL => [0x6D]
  | .ldLAtHL => [0x6E]
  | .ldLA => [0x6F]
  | .ldAtHLB => [0x70]
  | .ldAtHLC => [0x71]
  | .ldAtHLD => [0x72]
  | .ldAtHLE => [0x73]
  | .ldAtHLH => [0x74]
  | .ldAtHLL => [0x75]
  | .halt => [0x76]
  | .ldAtHLA => [0x77]
  | .ldAB => [0x78]
  | .ldAC => [0x79]
  | .ldAD => [0x7A]
  | .ldAE => [0x7B]
  | .ldAH => [0x7C]
  | .ldAL => [0x7D]
  | .ldAAtHL => [0x7E]
  | .ldAA => [0x7F]
  | .addAB => [0x80]
  | .addAC => [0x81]
  | .addAD => [0x82]
  | .addAE => [0x83]
  | .addAH => [0x84]
  | .addAL => [0x85]
  | .addAAtHL => [0x86]
  | .addAA => [0x87]
  | .adcAB => [0x88]
  | .adcAC => [0x89]
  | .adcAD => [0x8A]
  | .adcAE => [0x8B]
  | .adcAH => [0x8C]
  | .adcAL => [0x8D]
  | .adcAAtHL => [0x8E]
  | .adcAA => [0x8F]
  | .subB => [0x90]
  | .subC => [0x91]
  | .subD => [0x92]
  | .subE => [0x93]
  | .subH => [0x94]
  | .subL => [0x95]
  | .subAtHL => [0x96]
  | .subA => [0x97]
  | .sbcAB => [0x98]
  | .sbcAC => [0x99]
  | .sbcAD => [0x9A]
  | .sbcAE => [0x9B]
  | .sbcAH => [0x9C]
  | .sbcAL => [0x9D]
  | .sbcAAtHL => [0x9E]
  | .sbcAA => [0x9F]
  | .andB => [0xA0]
  | .andC => [0xA1]
  | .andD => [0xA2]
  | .andE => [0xA3]
  | .andH => [0xA4]
  | .andL => [0xA5]
  | .andAtHL => [0xA6]
  | .andA => [0xA7]
  | .xorB => [0xA8]
  | .xorC => [0xA9]
  | .xorD => [0xAA]
  | .xorE => [0xAB]
  | .xorH => [0xAC]
  | .xorL => [0xAD]
  | .xorAtHL => [0xAE]
  | .xorA => [0xAF]
  | .orB => [0xB0]
  | .orC => [0xB1]
  | .orD => [0xB2]
  | .orE => [0xB3]
  | .orH => [0xB4]
  | .orL => [0xB5]
  | .orAtHL => [0xB6]
  | .orA => [0xB7]
  | .cpB => [0xB8]
  | .cpC => [0xB9]
  | .cpD => [0xBA]
  | .cpE => [0xBB]
  | .cpH => [0xBC]
  | .cpL => [0xBD]
  | .cpAtHL => [0xBE]
  | .cpA => [0xBF]
  | .retNZ => [0xC0]
  | .popBC => [0xC1]
  | .jpNZNn nn => [0xC2, lo8 nn, hi8 nn]
  | .jpNn nn => [0xC3, lo8 nn, hi8 nn]
  | .callNZNn nn => [0xC4, lo8 nn, hi8 nn]
  | .pushBC => [0xC5]
  | .addAN n => [0xC6, n]
  | .rst00 => [0xC7]
  | .retZ => [0xC8]
  | .ret => [0xC9]
  | .jpZNn nn => [0xCA, lo8 nn, hi8 nn]
  | .callZNn nn => [0xCC, lo8 nn, hi8 nn]
  | .callNn nn => [0xCD, lo8 nn, hi8 nn]
  | .adcAN n => [0xCE, n]
  | .rst08 => [0xCF]
  | .retNC => [0xD0]
  | .popDE => [0xD1]
  | .jpNCNn nn => [0xD2, lo8 nn, hi8 nn]
  | .unknownD3 => [0xD3]
  | .callNCNn nn => [0xD4, lo8 nn, hi8 nn]
  | .pushDE => [0xD5]
  | .subN n => [0xD6, n]
  | .rst10 => [0xD7]
  | .retC => [0xD8]
  | .reti => [0xD9]
  | .jpCNn nn => [0xDA, lo8 nn, hi8 nn]
  | .unknownDB => [0xDB]
  | .callCNn nn => [0xDC, lo8 nn, hi8 nn]
  | .unknownDD => [0xDD]
  | .sbcAN n => [0xDE, n]
  | .rst18 => [0xDF]
  | .ldhAtNA n => [0xE0, n]
  | .popHL => [0xE1]
  | .ldAtCA => [0xE2]
  | .unknownE3 => [0xE3]
  | .unknownE4 => [0xE4]
  | .pushHL => [0xE5]
  | .andN n => [0xE6, n]
  | .rst20 => [0xE7]
  | .addSPE e => [0xE8, offsetByte e]
  | .jpAtHL => [0xE9]
  | .ldAtNnA nn => [0xEA, lo8 nn, hi8 nn]
  | .unknownEB => [0xEB]
  | .unknownEC => [0xEC]
  | .unknownED => [0xED]
  | .xorN n => [0xEE, n]
  | .rst28 => [0xEF]
  | .ldhAAtN n => [0xF0, n]
  | .popAF => [0xF1]
  | .ldAAtC => [0xF2]
  | .di => [0xF3]
  | .unknownF4 => [0xF4]
  | .pushAF => [0xF5]
  | .orN n => [0xF6, n]
  | .rst30 => [0xF7]
  | .ldHLSPE e => [0xF8, offsetByte e]
  | .ldSPHL => [0xF9]
  | .ldAAtNn nn => [0xFA, lo8 nn, hi8 nn]
  | .ei => [0xFB]
  | .unknownFC => [0xFC]
  | .unknownFD => [0xFD]
  | .cpN n => [0xFE, n]
  | .rst38 => [0xFF]
  | .rlcB => [0xCB, 0x00]
  | .rlcC => [0xCB, 0x01]
  | .rlcD => [0xCB, 0x02]
  | .rlcE => [0xCB, 0x03]
  | .rlcH => [0xCB, 0x04]
  | .rlcL => [0xCB, 0x05]
  | .rlcAtHL => [0xCB, 0x06]
  | .rlcA => [0xCB, 0x07]
  | .rrcB => [0xCB, 0x08]
  | .rrcC => [0xCB, 0x09]
  | .rrcD => [0xCB, 0x0A]
  | .rrcE => [0xCB, 0x0B]
  | .rrcH => [0xCB, 0x0C]
  | .rrcL => [0xCB, 0x0D]
  | .rrcAtHL => [0xCB, 0x0E]
  | .rrcA => [0xCB, 0x0F]
  | .rlB => [0xCB, 0x10]
  | .rlC => [0xCB, 0x11]
  | .rlD => [0xCB, 0x12]
  | .rlE => [0xCB, 0x13]
  | .rlH => [0xCB, 0x14]
  | .rlL => [0xCB, 0x15]
  | .rlAtHL => [0xCB, 0x16]
  | .rlA => [0xCB, 0x17]
  | .rrB => [0xCB, 0x18]
  | .rrC => [0xCB, 0x19]
  | .rrD => [0xCB, 0x1A]
  | .rrE => [0xCB, 0x1B]
  | .rrH => [0xCB, 0x1C]
  | .rrL => [0xCB, 0x1D]
  | .rrAtHL => [0xCB, 0x1E]
  | .rrA => [0xCB, 0x1F]
  | .slaB => [0xCB, 0x20]
  | .slaC => [0xCB, 0x21]
  | .slaD => [0xCB, 0x22]
  | .slaE => [0xCB, 0x23]
  | .slaH => [0xCB, 0x24]
  | .slaL => [0xCB, 0x25]
  | .slaAtHL => [0xCB, 0x26]
  | .slaA => [0xCB, 0x27]
  | .sraB => [0xCB, 0x28]
  | .sraC => [0xCB, 0x29]
  | .sraD => [0xCB, 0x2A]
  | .sraE => [0xCB, 0x2B]
  | .sraH => [0xCB, 0x2C]
  | .sraL => [0xCB, 0x2D]
  | .sraAtHL => [0xCB, 0x2E]
  | .sraA => [0xCB, 0x2F]
  | .swapB => [0xCB, 0x30]
  | .swapC => [0xCB, 0x31]
  | .swapD => [0xCB, 0x32]
  | .swapE => [0xCB, 0x33]
  | .swapH => [0xCB, 0x34]
  | .swapL => [0xCB, 0x35]
  | .swapAtHL => [0xCB, 0x36]
  | .swapA => [0xCB, 0x37]
  | .srlB => [0xCB, 0x38]
  | .srlC => [0xCB, 0x39]
  | .srlD => [0xCB, 0x3A]
  | .srlE => [0xCB, 0x3B]
  | .srlH => [0xCB, 0x3C]
  | .srlL => [0xCB, 0x3D]
  | .srlAtHL => [0xCB, 0x3E]
  | .srlA => [0xCB, 0x3F]
  | .bit0B => [0xCB, 0x40]
  | .bit0C => [0xCB, 0x41]
  | .bit0D => [0xCB, 0x42]
  | .bit0E => [0xCB, 0x43]
  | .bit0H => [0xCB, 0x44]
  | .bit0L => [0xCB, 0x45]
  | .bit0AtHL => [0xCB, 0x46]
  | .bit0A => [0xCB, 0x47]
  | .bit1B => [0xCB, 0x48]
  | .bit1C => [0xCB, 0x49]
  | .bit1D => [0xCB, 0x4A]
  | .bit1E => [0xCB, 0x4B]
  | .bit1H => [0xCB, 0x4C]
  | .bit1L => [0xCB, 0x4D]
  | .bit1AtHL => [0xCB, 0x4E]
  | .bit1A => [0xCB, 0x4F]
  | .bit2B => [0xCB, 0x50]
  | .bit2C => [0xCB, 0x51]
  | .bit2D => [0xCB, 0x52]
  | .bit2E => [0xCB, 0x53]
  | .bit2H => [0xCB, 0x54]
  | .bit2L => [0xCB, 0x55]
  | .bit2AtHL => [0xCB, 0x56]
  | .bit2A => [0xCB, 0x57]
  | .bit3B => [0xCB, 0x58]
  | .bit3C => [0xCB, 0x59]
  | .bit3D => [0xCB, 0x5A]
  | .bit3E => [0xCB, 0x5B]
  | .bit3H => [0xCB, 0x5C]
  | .bit3L => [0xCB, 0x5D]
  | .bit3AtHL => [0xCB, 0x5E]
  | .bit3A => [0xCB, 0x5F]
  | .bit4B => [0xCB, 0x60]
  | .bit4C => [0xCB, 0x61]
  | .bit4D => [0xCB, 0x62]
  | .bit4E => [0xCB, 0x63]
  | .bit4H => [0xCB, 0x64]
  | .bit4L => [0xCB, 0x65]
  | .bit4AtHL => [0xCB, 0x66]
  | .bit4A => [0xCB, 0x67]
  | .bit5B => [0xCB, 0x68]
  | .bit5C => [0xCB, 0x69]
  | .bit5D => [0xCB, 0x6A]
  | .bit5E => [0xCB, 0x6B]
  | .bit5H => [0xCB, 0x6C]
  | .bit5L => [0xCB, 0x6D]
  | .bit5AtHL => [0xCB, 0x6E]
  | .bit5A => [0xCB, 0x6F]
  | .bit6B => [0xCB, 0x70]
  | .bit6C => [0xCB, 0x71]
  | .bit6D => [0xCB, 0x72]
  | .bit6E => [0xCB, 0x73]
  | .bit6H => [0xCB, 0x74]
  | .bit6L => [0xCB, 0x75]
  | .bit6AtHL => [0xCB, 0x76]
  | .bit6A => [0xCB, 0x77]
  | .bit7B => [0xCB, 0x78]
  | .bit7C => [0xCB, 0x79]
  | .bit7D => [0xCB, 0x7A]
  | .bit7E => [0xCB, 0x7B]
  | .bit7H => [0xCB, 0x7C]
  | .bit7L => [0xCB, 0x7D]
  | .bit7AtHL => [0xCB, 0x7E]
  | .bit7A => [0xCB, 0x7F]
  | .res0B => [0xCB, 0x80]
  | .res0C => [0xCB, 0x81]
  | .res0D => [0xCB, 0x82]
  | .res0E => [0xCB, 0x83]
  | .res0H => [0xCB, 0x84]
  | .res0L => [0xCB, 0x85]
  | .res0AtHL => [0xCB, 0x86]
  | .res0A => [0xCB, 0x87]
  | .res1B => [0xCB, 0x88]
  | .res1C => [0xCB, 0x89]
  | .res1D => [0xCB, 0x8A]
  | .res1E => [0xCB, 0x8B]
  | .res1H => [0xCB, 0x8C]
  | .res1L => [0xCB, 0x8D]
  | .res1AtHL => [0xCB, 0x8E]
  | .res1A => [0xCB, 0x8F]
  | .res2B => [0xCB, 0x90]
  | .res2C => [0xCB, 0x91]
  | .res2D => [0xCB, 0x92]
  | .res2E => [0xCB, 0x93]
  | .res2H => [0xCB, 0x94]
  | .res2L => [0xCB, 0x95]
  | .res2AtHL => [0xCB, 0x96]
  | .res2A => [0xCB, 0x97]
  | .res3B => [0xCB, 0x98]
  | .res3C => [0xCB, 0x99]
  | .res3D => [0xCB, 0x9A]
  | .res3E => [0xCB, 0x9B]
  | .res3H => [0xCB, 0x9C]
  | .res3L => [0xCB, 0x9D]
  | .res3AtHL => [0xCB, 0x9E]
  | .res3A => [0xCB, 0x9F]
  | .res4B => [0xCB, 0xA0]
  | .res4C => [0xCB, 0xA1]
  | .res4D => [0xCB, 0xA2]
  | .res4E => [0xCB, 0xA3]
  | .res4H => [0xCB, 0xA4]
  | .res4L => [0xCB, 0xA5]
  | .res4AtHL => [0xCB, 0xA6]
  | .res4A => [0xCB, 0xA7]
  | .res5B => [0xCB, 0xA8]
  | .res5C => [0xCB, 0xA9]
  | .res5D => [0xCB, 0xAA]
  | .res5E => [0xCB, 0xAB]
  | .res5H => [0xCB, 0xAC]
  | .res5L => [0xCB, 0xAD]
  | .res5AtHL => [0xCB, 0xAE]
  | .res5A => [0xCB, 0xAF]
  | .res6B => [0xCB, 0xB0]
  | .res6C => [0xCB, 0xB1]
  | .res6D => [0xCB, 0xB2]
  | .res6E => [0xCB, 0xB3]
  | .res6H => [0xCB, 0xB4]
  | .res6L => [0xCB, 0xB5]
  | .res6AtHL => [0xCB, 0xB6]
  | .res6A => [0xCB, 0xB7]
  | .res7B => [0xCB, 0xB8]
  | .res7C => [0xCB, 0xB9]
  | .res7D => [0xCB, 0xBA]
  | .res7E => [0xCB, 0xBB]
  | .res7H => [0xCB, 0xBC]
  | .res7L => [0xCB, 0xBD]
  | .res7AtHL => [0xCB, 0xBE]
  | .res7A => [0xCB, 0xBF]
  | .set0B => [0xCB, 0xC0]
  | .set0C => [0xCB, 0xC1]
  | .set0D => [0xCB, 0xC2]
  | .set0E => [0xCB, 0xC3]
  | .set0H => [0xCB, 0xC4]
  | .set0L => [0xCB, 0xC5]
  | .set0AtHL => [0xCB, 0xC6]
  | .set0A => [0xCB, 0xC7]
  | .set1B => [0xCB, 0xC8]
  | .set1C => [0xCB, 0xC9]
  | .set1D => [0xCB, 0xCA]
  | .set1E => [0xCB, 0xCB]
  | .set1H => [0xCB, 0xCC]
  | .set1L => [0xCB, 0xCD]
  | .set1AtHL => [0xCB, 0xCE]
  | .set1A => [0xCB, 0xCF]
  | .set2B => [0xCB, 0xD0]
  | .set2C => [0xCB, 0xD1]
  | .set2D => [0xCB, 0xD2]
  | .set2E => [0xCB, 0xD3]
  | .set2H => [0xCB, 0xD4]
  | .set2L => [0xCB, 0xD5]
  | .set2AtHL => [0xCB, 0xD6]
  | .set2A => [0xCB, 0xD7]
  | .set3B => [0xCB, 0xD8]
  | .set3C => [0xCB, 0xD9]
  | .set3D => [0xCB, 0xDA]
  | .set3E => [0xCB, 0xDB]
  | .set3H => [0xCB, 0xDC]
  | .set3L => [0xCB, 0xDD]
  | .set3AtHL => [0xCB, 0xDE]
  | .set3A => [0xCB, 0xDF]
  | .set4B => [0xCB, 0xE0]
  | .set4C => [0xCB, 0xE1]
  | .set4D => [0xCB, 0xE2]
  | .set4E => [0xCB, 0xE3]
  | .set4H => [0xCB, 0xE4]
  | .set4L => [0xCB, 0xE5]
  | .set4AtHL => [0xCB, 0xE6]
  | .set4A => [0xCB, 0xE7]
  | .set5B => [0xCB, 0xE8]
  | .set5C => [0xCB, 0xE9]
  | .set5D => [0xCB, 0xEA]
  | .set5E => [0xCB, 0xEB]
  | .set5H => [0xCB, 0xEC]
  | .set5L => [0xCB, 0xED]
  | .set5AtHL => [0xCB, 0xEE]
  | .set5A => [0xCB, 0xEF]
  | .set6B => [0xCB, 0xF0]
  | .set6C => [0xCB, 0xF1]
  | .set6D => [0xCB, 0xF2]
  | .set6E => [0xCB, 0xF3]
  | .set6H => [0xCB, 0xF4]
  | .set6L => [0xCB, 0xF5]
  | .set6AtHL => [0xCB, 0xF6]
  | .set6A => [0xCB, 0xF7]
  | .set7B => [0xCB, 0xF8]
  | .set7C => [0xCB, 0xF9]
  | .set7D => [0xCB, 0xFA]
  | .set7E => [0xCB, 0xFB]
  | .set7H => [0xCB, 0xFC]
  | .set7L => [0xCB, 0xFD]
  | .set7AtHL => [0xCB, 0xFE]
  | .set7A => [0xCB, 0xFF]

/-! ### Decoding from a list of bytes -/

/-- Why a list of bytes decodes to no instruction. The core itself always fetches three bytes (R101), so neither arises
in a step. -/
inductive DecodeError where
  /-- there is no opcode byte -/
  | empty
  /-- the list ends inside the instruction whose opcode byte is given -/
  | truncated (opcode : Byte)
deriving DecidableEq, Repr

/-- The length of an instruction, "a function of the opcode byte alone" (R100). -/
def opcodeLength (b0 : Byte) : Nat := (encode (decode b0 0 0)).length

/-- The instruction at the front of a list of bytes, with the bytes after it. -/
def decodeBytes (bytes : List Byte) : Except DecodeError (Instr × List Byte) :=
  match bytes with
  | [] => .error .empty
  | b0 :: rest =>
    if rest.length + 1 < opcodeLength b0 then .error (.truncated b0)
    else .ok (decode b0 (rest.getD 0 0) (rest.getD 1 0), bytes.drop (opcodeLength b0))

/-! ### Words as spec/opcode_table.json numbers them (R117) -/

/-- Byte `k` of an instruction given as one number of `nbits` bits, the bits above `nbits` zero. The table gives 16 bits
to the CB rows only, as `byte0 * 256 + byte1` (R117), so a 16-bit number whose high byte is the prefix is read in that
order; every other number has its first byte lowest. -/
def tableByte (k nbits w : Nat) : Byte :=
  let v := w % 2 ^ nbits
  if nbits = 16 ∧ v / 256 = 0xCB then
    match k with
    | 0 => 0xCB
    | 1 => BitVec.ofNat 8 v
    | _ => 0
  else BitVec.ofNat 8 (v / 256 ^ k)

/-- The instruction the decoder reads from a word of the opcode table, operand bytes beyond it zero. -/
def decodeTableWord (nbits w : Nat) : Option Instr :=
  match decodeBytes [tableByte 0 nbits w, tableByte 1 nbits w, tableByte 2 nbits w] with
  | .ok (i, _) => some i
  | .error _ => none

end Sys2Proof
end

