-- ==== Sys2Proof/Machine/Fetch.lean ====
section
/-! DEFINITION. Fetching the instruction at `PC` (30_encoding.md R101), and putting an instruction where the next step
fetches it. -/

namespace Sys2Proof.Machine

/-- The instruction a step dispatches: the decoding of the three bytes at `PC` (R101, R115). -/
def fetchInstr (s : State) : Instr := decode (fetchByte 0 s) (fetchByte 1 s) (fetchByte 2 s)

/-- Store the bytes `b0 b1 b2` where the next step fetches them, with a poke each (which makes a collaborator that serves
one of the three addresses its reference instance), and let the next step fetch: not halted (R303) and not held in the
frame wait (R338). -/
def placeFetch (b0 b1 b2 : Byte) (s : State) : State :=
  { poke (s.pc + 2) b2 (poke (s.pc + 1) b1 (poke s.pc b0 s)) with halted := false, frameHold := false }

end Sys2Proof.Machine
end

