-- ==== Sys2Proof/Machine/Scheduler.lean ====
section
/-! DEFINITION. Everything of a step after the dispatch (60_exceptions.md R301 phases B to F): the enable-delay
countdown, the wake-up test and interrupt service, the cartridge hook, the timer scheduler with its three cadences, and
the end-of-frame wait. Each phase writes its fields one by one, so that a field it leaves alone is seen to stay. -/

namespace Sys2Proof.Machine

/-! ### Phase B, the countdown (R306) -/

/-- The next value of the delay counter (R306). -/
def ImeDelay.countdown : ImeDelay → ImeDelay
  | .armed => .expiring
  | .expiring => .inactive
  | .inactive => .inactive

/-- R306: armed becomes expiring; expiring sets `IME` and becomes inactive; inactive stays. -/
def countdown (s : State) : State :=
  { s with ime := if s.imeDelay = .expiring then true else s.ime, imeDelay := s.imeDelay.countdown }

/-! ### Phase C, interrupts (R309 to R312) -/

/-- R309: an enabled pending interrupt ends the halt, whatever `IME` is. -/
def wakeUp (s : State) : State := { s with halted := s.halted && decide (pending s = 0) }

/-- R310, R311: if `IME = 1`, service the first pending enabled class, at most one per step. -/
def serviceIfDue (s : State) : State :=
  if s.ime then
    match firstClass (pending s) with
    | some k => serviceInterrupt k s
    | none => s
  else s

/-- Phase C. -/
def interruptPhase (s : State) : State := serviceIfDue (wakeUp s)

/-! ### Phase E, the timer scheduler (R330 to R337) -/

/-- The effective count of a cadence (10_state.md R34): doubled in double-speed mode. -/
def effective (n : Nat) (s : State) : Nat := n * (if s.doubleSpeed then 2 else 1)

/-- R330: a cadence of base count `n` fires in this step. -/
def fires (n : Nat) (s : State) : Bool := decide (s.instrCount % effective n s = 0)

/-- R330 line 1. -/
def countStep (s : State) : State := { s with instrCount := s.instrCount + 1 }

/-- R331. -/
def dividerTick (s : State) : State :=
  { s with div := if fires s.params.nDiv s then s.div + 1 else s.div }

/-- R332 line 1. -/
def timerFires (s : State) : Bool := s.timerEnabled && fires (s.params.nTima s.timaRate) s

/-- R332: count, or on overflow from 0xFF reload from the modulo and raise the timer class if it is enabled. -/
def timerTick (s : State) : State :=
  { s with
    tima := if timerFires s then (if s.tima = 0xFF then s.tma else s.tima + 1) else s.tima
    ifReg :=
      if timerFires s && decide (s.tima = 0xFF) then (triggerInterruptIfEnabled .timer s).ifReg else s.ifReg }

/-- R333 line 3: the scanline after the current one is past the final line. -/
def lineWraps (s : State) : Bool := decide (s.ly.toNat + 1 > s.params.lastLine)

/-- R333 line 4: the line being entered, "the controlling line". -/
def nextLine (s : State) : Nat := if lineWraps s then 0 else s.ly.toNat + 1

/-- R334: one of the two display-status conditions holds for the line being entered, and it is visible. -/
def displayStatusDue (s : State) : Bool :=
  decide (nextLine s < s.params.visibleLines) &&
    ((s.stat.getLsbD 6 && decide (s.lyc.toNat = nextLine s)) || s.stat.getLsbD 3)

/-- R335: the line being entered starts the vertical blank. -/
def verticalBlankDue (s : State) : Bool := decide (nextLine s = s.params.visibleLines)

/-- R335 line 2: the lines `VISIBLE_LINES` to `LAST_LINE`. -/
def blankLines (p : Params) : List Nat := List.range' p.visibleLines (p.lastLine + 1 - p.visibleLines)

/-- The events of a scanline tick, in order: R336, R335 line 2, R337 line 1. -/
def scanlineEvents (s : State) : List Event :=
  (if s.ly.toNat < s.params.visibleLines then [.notifyScanline s.ly.toNat] else []) ++
    (if verticalBlankDue s then (blankLines s.params).map Event.notifyScanline else []) ++
    (if lineWraps s then [.notifyAudioFrame] else [])

/-- The classes a scanline tick raises, both unconditionally (R334, R335; R315). -/
def scanlineRaises (s : State) : Byte :=
  (if displayStatusDue s then IntClass.displayStatus.mask else 0) |||
    (if verticalBlankDue s then IntClass.verticalBlank.mask else 0)

/-- `Display.isFrameReady()` (20_memory.md R72): the host input `frame_composed`, which the reference display has always
true (R73). -/
def frameReady (s : State) : Bool := decide (s.params.display = .reference) || s.frameComposed

/-- R333: advance the scanline, raise what is due, notify, and enter the frame wait when the frame ends and is not ready
(R337, R338). -/
def scanlineTick (s : State) : State :=
  { s with
    ly := if fires s.params.nLine s then BitVec.ofNat 8 (nextLine s) else s.ly
    ifReg := if fires s.params.nLine s then s.ifReg ||| scanlineRaises s else s.ifReg
    events := s.events ++ (if fires s.params.nLine s then scanlineEvents s else [])
    frameHold := !frameReady s && (fires s.params.nLine s && lineWraps s) }

/-- Phase E (R330): count the step, then the divider, timer and scanline ticks. -/
def schedulerPhase (s : State) : State := scanlineTick (timerTick (dividerTick (countStep s)))

/-- Phase F (R347): "In the model phase F does nothing." -/
def persistencePhase (s : State) : State := s

/-- Phases B to F of R301, after the dispatch. -/
def afterDispatch (s : State) : State :=
  persistencePhase (schedulerPhase (cartPeriodicUpdate (interruptPhase (countdown s))))

/-! ### The end-of-frame wait (R338) -/

/-- The core is held: the frame has ended and is not ready. -/
def held (s : State) : Bool := s.frameHold && !frameReady s

/-- The wait is over. -/
def release (s : State) : State := { s with frameHold := false }

end Sys2Proof.Machine
end

