-- ==== Sys2Proof/Machine/Step.lean ====
section
/-! DEFINITION. One step of the core (60_exceptions.md R301), and the fixed name that places an instruction where the
next step runs it. -/

namespace Sys2Proof.Machine

/-- Phase A (R301, R303): dispatch the instruction at `PC`, or nothing when halted. -/
def dispatchPhase (s : State) : Result := if s.halted then .next s else exec (fetchInstr s) s

/-- One step (R301). A core held in the frame wait stays as it is (R338). -/
def step (s : State) : Host.Outcome State Fault Refusal :=
  if held s then .next s
  else
    match dispatchPhase (release s) with
    | .next u => .next (afterDispatch u)
    | .fault r => .fault r
    | .refused r => .refused r

/-- `s` with the instruction whose bits are `w`, numbered as spec/opcode_table.json numbers them, stored where `step`
fetches its next instruction. -/
def State.withFetchWord (s : State) (nbits w : Nat) : State :=
  placeFetch (tableByte 0 nbits w) (tableByte 1 nbits w) (tableByte 2 nbits w) s

end Sys2Proof.Machine
end

