-- ==== Sys2Proof/Safety.lean ====
section
/-! DEFINITION. What a legal state of the core is, in the terms the statements use: the invariant that reset
establishes and every step keeps, the storage cell a bus address reaches, and the addresses an instruction stores to. -/

namespace Sys2Proof.Machine

/-- Every memory is in canonical form and inside its storage element (R35 to R37, R71, R73). -/
def memoriesWf (s : State) : Bool :=
  memWf 32768 s.wram && memWf 256 s.oam && memWf 256 s.io && memWf 32768 s.rom && memWf 8192 s.cram && memWf 8192 s.vram

/-- The low nibble of `F` is zero (R26). -/
def flagsWf (s : State) : Bool := decide (s.f &&& 0x0F = 0)

/-- The bank selector is one of 1 to 7, and 1 without ENHANCED (R35, R65). -/
def bankWf (s : State) : Bool := decide (s.wramBank ≠ 0) && (s.params.enhanced || decide (s.wramBank = 1))

/-- With the reference I/O handler, the timer's enable flag and rate are those the timer-control byte holds (R33, R45,
R77). -/
def timerWf (s : State) : Bool :=
  decide (s.params.ioHandler = .supplied) ||
    (decide (s.timerEnabled = s.tac.getLsbD 2) && decide (s.timaRate = s.tac.extractLsb' 0 2))

/-- A legal state. -/
def legal (s : State) : Bool := memoriesWf s && flagsWf s && bankWf s && timerWf s

/-- The storage cell a bus address reaches, with the bank selector at `bank` (R61, R62): the ROM and RAM of the
reference cartridge, the reference display's memory, the work RAM through either window, the sprite block, the I/O
block. -/
def cellOf (bank : BitVec 3) (a : Word) : Store × Nat :=
  match regionOf a with
  | .cartRom => (.rom, a.toNat)
  | .display => (.vram, (a - 0x8000).toNat)
  | .cartRam => (.cram, (a - 0xA000).toNat)
  | .wramLow => (.wram, wramIndex bank a)
  | .wramBanked => (.wram, wramIndex bank a)
  | .mirror => (.wram, wramIndex bank (a - 0x2000))
  | .oam => (.oam, (a - 0xFE00).toNat)
  | .io => (.io, (lo8 a).toNat)

/-- The two windows that follow the bank selector: 0xD000 to 0xDFFF and its mirror 0xF000 to 0xFDFF (R65, R66). -/
def followsBank (x : Word) : Bool :=
  (decide (0xD000 ≤ x.toNat) && decide (x.toNat ≤ 0xDFFF)) || (decide (0xF000 ≤ x.toNat) && decide (x.toNat ≤ 0xFDFF))

/-- The address is served by the cartridge, in either of its windows (R61, R70). -/
def inCartridge (a : Word) : Bool := regionOf a = .cartRom || regionOf a = .cartRam

/-- A bus write to `a` leaves the byte behind `x` alone. A supplied I/O handler's write may change anything but the
cartridge (R74), a supplied cartridge's write any byte of the cartridge (R70), a supplied display's write any byte of the
display (R72). Otherwise `x` reaches another cell, and where `a` is the bank register, whose write can move the
switchable bank (R78), `x` is not in a window that follows it. -/
def leavesAlone (s : State) (a x : Word) : Bool :=
  if regionOf a = .io && s.params.ioHandler = .supplied then inCartridge x
  else if inCartridge a && s.params.cartridge = .supplied then !inCartridge x
  else if regionOf a = .display && s.params.display = .supplied then decide (regionOf x ≠ .display)
  else decide (cellOf s.wramBank a ≠ cellOf s.wramBank x) && (decide (a ≠ 0xFF70) || !followsBank x)

/-- A read of `x` is computed by a supplied I/O handler, which "may depend on any part of the state" (R74), and is not a
read of the byte stored there. -/
def computedRead (s : State) (x : Word) : Bool :=
  regionOf x = .io && s.params.ioHandler = .supplied && !isInterruptOffset (lo8 x)

/-- The addresses where a read just after a write returns the byte written (R85): the work RAM windows, the sprite
block, the two bytes IF and IE of any I/O handler (R74), and of the reference handler every offset but 0x04 and 0x44. -/
def plainStorage (s : State) (a : Word) : Bool :=
  decide (0xC000 ≤ a.toNat) &&
    (decide (a.toNat < 0xFF00) || decide (a = 0xFF0F) || decide (a = 0xFFFF) ||
      (decide (s.params.ioHandler = .reference) && decide (a ≠ 0xFF04) && decide (a ≠ 0xFF44)))

/-- The addresses an instruction stores to, in order; an instruction not named stores nothing. -/
def storeAddrs (i : Instr) (s : State) : List Word :=
  match i with
  | .ldAtBCA => [s.bc]
  | .ldAtNnSP nn => [nn, nn + 1]
  | .ldAtDEA => [s.de]
  | .ldAtHLIncA => [s.hl]
  | .ldAtHLDecA => [s.hl]
  | .incAtHL => [s.hl]
  | .decAtHL => [s.hl]
  | .ldAtHLN _ => [s.hl]
  | .ldAtHLB => [s.hl]
  | .ldAtHLC => [s.hl]
  | .ldAtHLD => [s.hl]
  | .ldAtHLE => [s.hl]
  | .ldAtHLH => [s.hl]
  | .ldAtHLL => [s.hl]
  | .ldAtHLA => [s.hl]
  | .callNZNn _ => if cond .nz s then [s.sp - 1, s.sp - 2] else []
  | .pushBC => [s.sp - 1, s.sp - 2]
  | .rst00 => [s.sp - 1, s.sp - 2]
  | .callZNn _ => if cond .z s then [s.sp - 1, s.sp - 2] else []
  | .callNn _ => [s.sp - 1, s.sp - 2]
  | .rst08 => [s.sp - 1, s.sp - 2]
  | .callNCNn _ => if cond .nc s then [s.sp - 1, s.sp - 2] else []
  | .pushDE => [s.sp - 1, s.sp - 2]
  | .rst10 => [s.sp - 1, s.sp - 2]
  | .callCNn _ => if cond .c s then [s.sp - 1, s.sp - 2] else []
  | .rst18 => [s.sp - 1, s.sp - 2]
  | .ldhAtNA n => [highPage n]
  | .ldAtCA => [highPage s.c]
  | .pushHL => [s.sp - 1, s.sp - 2]
  | .rst20 => [s.sp - 1, s.sp - 2]
  | .ldAtNnA nn => [nn]
  | .rst28 => [s.sp - 1, s.sp - 2]
  | .pushAF => [s.sp - 1, s.sp - 2]
  | .rst30 => [s.sp - 1, s.sp - 2]
  | .rst38 => [s.sp - 1, s.sp - 2]
  | .rlcAtHL => [s.hl]
  | .rrcAtHL => [s.hl]
  | .rlAtHL => [s.hl]
  | .rrAtHL => [s.hl]
  | .slaAtHL => [s.hl]
  | .sraAtHL => [s.hl]
  | .swapAtHL => [s.hl]
  | .srlAtHL => [s.hl]
  | .res0AtHL => [s.hl]
  | .res1AtHL => [s.hl]
  | .res2AtHL => [s.hl]
  | .res3AtHL => [s.hl]
  | .res4AtHL => [s.hl]
  | .res5AtHL => [s.hl]
  | .res6AtHL => [s.hl]
  | .res7AtHL => [s.hl]
  | .set0AtHL => [s.hl]
  | .set1AtHL => [s.hl]
  | .set2AtHL => [s.hl]
  | .set3AtHL => [s.hl]
  | .set4AtHL => [s.hl]
  | .set5AtHL => [s.hl]
  | .set6AtHL => [s.hl]
  | .set7AtHL => [s.hl]
  | _ => []

/-- The instructions that write the stack pointer (R25). -/
def movesSP (i : Instr) : Bool :=
  match i with
  | .ldSPNn _ => true
  | .incSP => true
  | .decSP => true
  | .retNZ => true
  | .popBC => true
  | .callNZNn _ => true
  | .pushBC => true
  | .rst00 => true
  | .retZ => true
  | .ret => true
  | .callZNn _ => true
  | .callNn _ => true
  | .rst08 => true
  | .retNC => true
  | .popDE => true
  | .callNCNn _ => true
  | .pushDE => true
  | .rst10 => true
  | .retC => true
  | .reti => true
  | .callCNn _ => true
  | .rst18 => true
  | .popHL => true
  | .pushHL => true
  | .rst20 => true
  | .addSPE _ => true
  | .rst28 => true
  | .popAF => true
  | .pushAF => true
  | .rst30 => true
  | .ldSPHL => true
  | .rst38 => true
  | _ => false

/-- The opcodes whose instruction writes flags, by the bytes of its encoding: the ALU block and its immediate forms, INC
and DEC of `r8`, the accumulator and flag adjustments, ADD HL, ADD SP, LD HL,SP+e, POP AF, and CB groups 0 and 1. -/
def writesFlags (op sub : Byte) : Bool :=
  let x := (op.extractLsb' 6 2).toNat
  let z := (op.extractLsb' 0 3).toNat
  (x = 2) || (x = 0 && (z = 4 || z = 5 || z = 7 || (z = 1 && op.getLsbD 3))) || (x = 3 && z = 6) || (op = 0xE8) || (op = 0xF8) || (op = 0xF1) ||
    (op = 0xCB && decide (sub.toNat < 0x80))

end Sys2Proof.Machine
end

