-- ==== Sys2Proof/Certificates/Slice0/Obligations.lean ====
section
/-! DEFINITION. What is claimed about the model, each claim with the rule of spec/ it formalises. The results are written
with their own arithmetic (bit-vector addition, rotation, carries into a bit position), not with the model's flag
functions, and every completion statement gives the whole next state, so what it does not name is unchanged. -/

open Sys2Proof Sys2Proof.Machine

/-! ### Words the statements share -/

namespace Sys2Proof.Claims

/-- The flag byte of R26: Z, N, Hf, Cf in bits 7 to 4 and a zero low nibble. -/
def flagByte (z n h c : Bool) : Byte := BitVec.ofBool z ++ BitVec.ofBool n ++ BitVec.ofBool h ++ BitVec.ofBool c ++ 0#4

/-- The flags as bits 7 to 4 of `F` (R26). -/
def flagZ (s : State) : Bool := s.f.getLsbD 7
def flagN (s : State) : Bool := s.f.getLsbD 6
def flagH (s : State) : Bool := s.f.getLsbD 5
def flagC (s : State) : Bool := s.f.getLsbD 4

/-- A truth value as the byte 0 or 1. -/
def bitByte (b : Bool) : Byte := if b then 1 else 0

/-- R183, R184: `A + v + cin` with the carries out of bits 3 and 7. -/
def added (v : Byte) (cin : Bool) (s : State) : State :=
  { s with
    a := s.a + v + bitByte cin
    f := flagByte (decide (s.a + v + bitByte cin = 0)) false (BitVec.carry 4 s.a v cin) (BitVec.carry 8 s.a v cin) }

/-- R185, R186, R190: the flags of `A - v - cin`, which record the borrows of bits 3 and 7. -/
def subtractFlags (v : Byte) (cin : Bool) (s : State) : Byte :=
  flagByte (decide (s.a - v - bitByte cin = 0)) true (decide (s.a.toNat % 16 < v.toNat % 16 + cin.toNat))
    (decide (s.a.toNat < v.toNat + cin.toNat))

/-- R185, R186: `A - v - cin`. -/
def subtracted (v : Byte) (cin : Bool) (s : State) : State :=
  { s with a := s.a - v - bitByte cin, f := subtractFlags v cin s }

/-- R187 to R189: a logical result in `A`. -/
def logical (res : Byte) (h : Bool) (s : State) : State := { s with a := res, f := flagByte (decide (res = 0)) false h false }

/-- The instruction `i` has the encoding `bytes` (30_encoding.md R102 to R110) and, dispatched in `s`, answers the next
state `t`. -/
def Runs (i : Instr) (bytes : List Byte) (s t : State) : Prop := encode i = bytes ∧ exec i s = .next t

/-- The 3-bit code of an operand (R24). -/
def code (r : Operand8) : BitVec 3 :=
  match r with
  | .b => 0
  | .c => 1
  | .d => 2
  | .e => 3
  | .h => 4
  | .l => 5
  | .atHL => 6
  | .a => 7

/-- The 2-bit code of a register pair (R105). -/
def pairCode (p : Pair) : BitVec 2 :=
  match p with
  | .bc => 0
  | .de => 1
  | .hl => 2
  | .sp => 3

/-- The 2-bit code of a condition (R105, R255 b). -/
def condCode (cc : Cond) : BitVec 2 :=
  match cc with
  | .nz => 0
  | .z => 1
  | .nc => 2
  | .c => 3

/-- An immediate word as its two bytes, low byte first (R104). -/
def lowByte (nn : Word) : Byte := nn.extractLsb' 0 8
def highByte (nn : Word) : Byte := nn.extractLsb' 8 8

/-- Both forms of the ALU operation of code `o` (R180): `f v` on the operand read from `r8[r]`, length 1, and on `n`,
length 2. -/
def AluForms (op : AluOp) (o : BitVec 3) (f : Byte → State → State) : Prop :=
  ∀ s : State,
    (∀ r : Operand8, Runs (aluBlock op r) [0b10#2 ++ o ++ code r] s { f (readR8 r s) s with pc := s.pc + 1 }) ∧
      ∀ n : Byte, Runs (aluImm op n) [0b11#2 ++ o ++ 6#3, n] s { f n s with pc := s.pc + 2 }

/-- R224 to R231, R235: the variant of code `o` on `r8[r]` writes `new` back, with `Z` its zero test, `N = Hf = 0` and
`Cf = c`. -/
def RotateForms (op : RotOp) (o : BitVec 3) (r : Operand8) (new : Byte) (c : Bool) (s : State) : Prop :=
  Runs (rotBlock op r) [0xCB, 0b00#2 ++ o ++ code r] s
    { writeR8 r new s with f := flagByte (decide (new = 0)) false false c, pc := s.pc + 2 }

/-- R220 to R223: `A` and the carry after an accumulator rotate, `Z = N = Hf = 0`. -/
def RotatesA (i : Instr) (opcode new : Byte) (c : Bool) (s : State) : Prop :=
  Runs i [opcode] s { s with a := new, f := flagByte false false false c, pc := s.pc + 1 }

/-- R82: the state after `w` is pushed and control goes to `target`. -/
def pushedAndGone (w target : Word) (s : State) : State :=
  { busWrite (s.sp - 2) (lowByte w) (busWrite (s.sp - 1) (highByte w) s) with sp := s.sp - 2, pc := target }

/-- R82: the word on the stack, low byte at `SP`. -/
def stackWord (s : State) : Word := busRead (s.sp + 1) s ++ busRead s.sp s

/-- R255 b: the condition `cc`. -/
def holds (cc : Cond) (s : State) : Bool :=
  match cc with
  | .nz => !flagZ s
  | .z => flagZ s
  | .nc => !flagC s
  | .c => flagC s

/-- Everything but memory, the I/O block, the timer selection and the collaborators' own states is the same: registers, flags, interrupt control, the
counter, the host's inputs, the events, the parameters and the read-only image. -/
def sameCore (s t : State) : Prop :=
  (t.a = s.a ∧ t.b = s.b ∧ t.c = s.c ∧ t.d = s.d ∧ t.e = s.e ∧ t.h = s.h ∧ t.l = s.l ∧ t.f = s.f ∧ t.sp = s.sp ∧ t.pc = s.pc) ∧
    (t.ime = s.ime ∧ t.imeDelay = s.imeDelay ∧ t.halted = s.halted ∧ t.instrCount = s.instrCount ∧ t.doubleSpeed = s.doubleSpeed) ∧
      (t.rom = s.rom ∧ t.events = s.events ∧ t.frameComposed = s.frameComposed ∧ t.frameHold = s.frameHold ∧
        t.terminate = s.terminate ∧ t.params = s.params ∧ t.ioInput = s.ioInput)

/-- The instruction is one of those that change the interrupt enable (R305): DI, EI, RETI. -/
def changesEnable (i : Instr) : Bool := i = .di || i = .ei || i = .reti

/-- The eleven unknown opcodes of R112. -/
def unknownOpcodes : List Byte := [0xD3, 0xDB, 0xDD, 0xE3, 0xE4, 0xEB, 0xEC, 0xED, 0xF4, 0xFC, 0xFD]

/-- The steps a cadence of base count `n` takes: doubled in double-speed mode (R34). -/
def cadence (n : Nat) (s : State) : Nat := if s.doubleSpeed then n * 2 else n

/-- A cadence of base count `n` fires in the next scheduler phase, which counts the step first (R330). -/
def due (n : Nat) (s : State) : Bool := decide ((s.instrCount + 1) % cadence n s = 0)

/-- `N_TIMA[tima_rate]` (R33). -/
def timerBase (s : State) : Nat :=
  if s.timaRate = 0 then s.params.nTima0
  else if s.timaRate = 1 then s.params.nTima1
  else if s.timaRate = 2 then s.params.nTima2
  else s.params.nTima3

/-- R332 line 1. -/
def timerDue (s : State) : Bool := s.timerEnabled && due (timerBase s) s

/-- R333 lines 3 and 4: the line being entered. -/
def enteredLine (s : State) : Nat := if s.ly.toNat + 1 > s.params.lastLine then 0 else s.ly.toNat + 1

end Sys2Proof.Claims

open Sys2Proof.Claims

/-! ### Reset and the legal states -/

/-- R45: every element at its reset value, for every parameter record and cartridge image; the I/O block at `IO_RESET`,
which is uninterpreted, the two memories with nothing written, and a supplied cartridge and display at what their own
reset gives, uninterpreted too. The control bits are the spec's own decision D22. -/
def Obligations.ResetValues : Prop :=
  ∀ (p : Params) (rom : Memory),
    let s := State.resetWith p rom
    (s.pc = 0x0100 ∧ s.sp = 0xFFFE ∧ s.f = 0xB0 ∧ s.a = (if p.enhanced then 0x11 else 0x01)) ∧
      (s.bc = 0x0013 ∧ s.de = 0x00D8 ∧ s.hl = 0x014D) ∧
      (s.ime = false ∧ s.imeDelay = .inactive ∧ s.halted = false ∧ s.instrCount = 0 ∧ s.doubleSpeed = false ∧ s.wramBank = 1) ∧
      (s.timerEnabled = (Config.unwritten .io 0x07).getLsbD 2 ∧ s.timaRate = (Config.unwritten .io 0x07).extractLsb' 0 2) ∧
      (∀ o : Byte, ioGet o s = Config.unwritten .io o.toNat) ∧
      (s.cartState = Config.Cartridge.reset ∧ s.dispState = Config.Display.reset) ∧
      (∀ k : Nat, readCell .wram s.wram k = Config.unwritten .wram k ∧ readCell .oam s.oam k = Config.unwritten .oam k)

/-- The state after reset is legal, whatever the parameters and a well-formed cartridge image are. -/
def Obligations.ResetIsLegal : Prop :=
  legal State.reset = true ∧ ∀ (p : Params) (rom : Memory), memWf 32768 rom = true → legal (State.resetWith p rom) = true

/-- Every step keeps a legal state legal: every memory canonical and inside its element, `F[3:0] = 0` (R26), the bank
selector 1 to 7 and 1 without ENHANCED (R35), with the reference I/O handler the timer's enable and rate as the timer
control holds them (R33, R77). It holds for every instance of the collaborators. -/
def Obligations.StepKeepsLegalStates : Prop := ∀ s t : State, legal s = true → step s = .next t → legal t = true

/-- No step changes the double-speed switch (R34), the parameters (R4), the cartridge's image (R71) or the host's inputs
`terminate`, `frame_composed` (R41; notes/assumptions/11.md) and those of a supplied I/O handler (R74;
notes/assumptions/32.md). -/
def Obligations.StepKeepsHostSettings : Prop :=
  ∀ s t : State, step s = .next t →
    t.doubleSpeed = s.doubleSpeed ∧ t.params = s.params ∧ t.rom = s.rom ∧ t.terminate = s.terminate ∧
      t.frameComposed = s.frameComposed ∧ t.ioInput = s.ioInput

/-- R7, R300: every instruction and every step answers a next state, in every state. -/
def Obligations.EveryStepAnswersNext : Prop :=
  (∀ (i : Instr) (s : State), ∃ t, exec i s = .next t) ∧ ∀ s : State, ∃ t, step s = .next t

/-! ### Encoding -/

/-- Decoding the bytes of a well-formed instruction, whatever follows them, gives it back with what follows. -/
def Obligations.DecodeOfEncode : Prop :=
  ∀ (i : Instr) (rest : List Byte), WellFormed i = true → decodeBytes (encode i ++ rest) = .ok (i, rest)

/-- Any three bytes decode to a well-formed instruction whose encoding is the first 1, 2 or 3 of them (R100, R115). -/
def Obligations.EncodeOfDecode : Prop :=
  ∀ b0 b1 b2 : Byte,
    WellFormed (decode b0 b1 b2) = true ∧ 1 ≤ opcodeLength b0 ∧ opcodeLength b0 ≤ 3 ∧
      encode (decode b0 b1 b2) = [b0, b1, b2].take (opcodeLength b0)

/-- Words written out from the encodings of one instruction per family. -/
def Obligations.OpcodeWordsDecode : Prop :=
  decode 0b01000001 0 0 = .ldBC ∧ decode 0x3E 0x42 0 = .ldAN 0x42 ∧ decode 0x18 0xFE 0 = .jrE (-2) ∧
    decode 0b01110110 0 0 = .halt ∧ decode 0x21 0x00 0xC0 = .ldHLNn 0xC000 ∧ decode 0b10001011 0 0 = .adcAE ∧
    decode 0b00111001 0 0 = .addHLSP ∧ decode 0xE8 0x80 0 = .addSPE (-128) ∧ decode 0x17 0 0 = .rla ∧
    decode 0xCB 0b00110111 0 = .swapA ∧ decode 0xCB 0b11011110 0 = .set3AtHL ∧ decode 0xCD 0x34 0x12 = .callNn 0x1234 ∧
    decode 0b11101111 0 0 = .rst28 ∧ decode 0xF5 0 0 = .pushAF ∧ decode 0xDD 0 0 = .unknownDD ∧ decode 0xFB 0 0 = .ei

/-- R106, R107, R108: the regular blocks decode by their fields. -/
def Obligations.BlocksDecodeByFields : Prop :=
  ∀ (y z : BitVec 3) (b1 b2 : Byte),
    decode (0b01#2 ++ y ++ z) b1 b2 = ldBlock (Operand8.ofBits y) (Operand8.ofBits z) ∧ ldBlock .atHL .atHL = .halt ∧
      decode (0b10#2 ++ y ++ z) b1 b2 = aluBlock (AluOp.ofBits y) (Operand8.ofBits z) ∧
      decode (0b11#2 ++ y ++ 6#3) b1 b2 = aluImm (AluOp.ofBits y) b1 ∧
      decode 0xCB (0b00#2 ++ y ++ z) b2 = rotBlock (RotOp.ofBits y) (Operand8.ofBits z) ∧
      decode 0xCB (0b01#2 ++ y ++ z) b2 = bitBlock y (Operand8.ofBits z) ∧
      decode 0xCB (0b10#2 ++ y ++ z) b2 = resBlock y (Operand8.ofBits z) ∧
      decode 0xCB (0b11#2 ++ y ++ z) b2 = setBlock y (Operand8.ofBits z)

/-- R109, R110: the other opcodes with a field decode by it, with the immediate bytes in place. -/
def Obligations.FieldOpcodesDecode : Prop :=
  ∀ (y : BitVec 3) (p : BitVec 2) (b1 b2 : Byte),
    (decode (0b00#2 ++ y ++ 4#3) b1 b2 = incBlock (Operand8.ofBits y) ∧ decode (0b00#2 ++ y ++ 5#3) b1 b2 = decBlock (Operand8.ofBits y) ∧
      decode (0b00#2 ++ y ++ 6#3) b1 b2 = ldImm (Operand8.ofBits y) b1) ∧
      (decode (0b00#2 ++ p ++ 1#4) b1 b2 = ldPairImm (Pair.ofBits p) (b2 ++ b1) ∧ decode (0b00#2 ++ p ++ 9#4) b1 b2 = addHLPair (Pair.ofBits p) ∧
        decode (0b00#2 ++ p ++ 3#4) b1 b2 = incPair (Pair.ofBits p) ∧ decode (0b00#2 ++ p ++ 11#4) b1 b2 = decPair (Pair.ofBits p)) ∧
      (decode (0b001#3 ++ p ++ 0#3) b1 b2 = jrCond (Cond.ofBits p) b1.toInt ∧ decode (0b110#3 ++ p ++ 0#3) b1 b2 = retCond (Cond.ofBits p) ∧
        decode (0b110#3 ++ p ++ 2#3) b1 b2 = jpCond (Cond.ofBits p) (b2 ++ b1) ∧
        decode (0b110#3 ++ p ++ 4#3) b1 b2 = callCond (Cond.ofBits p) (b2 ++ b1)) ∧
      (decode (0b11#2 ++ p ++ 1#4) b1 b2 = popPair (PairAF.ofBits p) ∧ decode (0b11#2 ++ p ++ 5#4) b1 b2 = pushPair (PairAF.ofBits p) ∧
        decode (0b11#2 ++ y ++ 7#3) b1 b2 = rstBlock y)

/-! ### Registers and operand fields -/

/-- R21, R22, R24: the operand field of a register reads and writes that register, the index 6 is a bus access at `HL`,
and a pair is its two halves, the first-named high. -/
def Obligations.OperandFields : Prop :=
  ∀ (s : State) (v : Byte) (w : Word),
    (readR8 (Operand8.ofBits 0) s = s.b ∧ readR8 (Operand8.ofBits 1) s = s.c ∧ readR8 (Operand8.ofBits 2) s = s.d ∧
      readR8 (Operand8.ofBits 3) s = s.e ∧ readR8 (Operand8.ofBits 4) s = s.hl.extractLsb' 8 8 ∧
      readR8 (Operand8.ofBits 5) s = s.hl.extractLsb' 0 8 ∧ readR8 (Operand8.ofBits 6) s = busRead s.hl s ∧
      readR8 (Operand8.ofBits 7) s = s.a) ∧
    (writeR8 (Operand8.ofBits 0) v s = { s with b := v } ∧ writeR8 (Operand8.ofBits 1) v s = { s with c := v } ∧
      writeR8 (Operand8.ofBits 2) v s = { s with d := v } ∧ writeR8 (Operand8.ofBits 3) v s = { s with e := v } ∧
      writeR8 (Operand8.ofBits 4) v s = setHL (v ++ s.hl.extractLsb' 0 8) s ∧
      writeR8 (Operand8.ofBits 5) v s = setHL (s.hl.extractLsb' 8 8 ++ v) s ∧
      writeR8 (Operand8.ofBits 6) v s = busWrite s.hl v s ∧ writeR8 (Operand8.ofBits 7) v s = { s with a := v }) ∧
    (s.bc = s.b ++ s.c ∧ s.de = s.d ++ s.e ∧ s.hl = s.h ++ s.l ∧ (setHL w s).hl = w ∧ (setBC w s).bc = w ∧ (setDE w s).de = w) ∧
    (setBC w s = { s with b := w.extractLsb' 8 8, c := w.extractLsb' 0 8 } ∧
      setDE w s = { s with d := w.extractLsb' 8 8, e := w.extractLsb' 0 8 } ∧
      setHL w s = { s with h := w.extractLsb' 8 8, l := w.extractLsb' 0 8 })

/-! ### One step -/

/-- R301, R302: when the bytes at `PC` decode to `i` and `exec i` answers `t`, the step of a core that is neither halted
nor in the frame wait is `t` followed by the countdown, the interrupts, the cartridge hook and the scheduler. That they follow
in this order is the spec's own decision D3 (90_conflicts.md C1). -/
def Obligations.StepRunsTheFetchedInstruction : Prop :=
  ∀ (s t : State) (i : Instr), s.halted = false → s.frameHold = false →
    decode (busRead s.pc s) (busRead (s.pc + 1) s) (busRead (s.pc + 2) s) = i → exec i s = .next t →
      step s = .next (schedulerPhase (cartPeriodicUpdate (interruptPhase (countdown t))))

/-- R338 (the spec's own decision D18), with the wait as states of its own (the model's choice,
notes/assumptions/9.md): held until the host's signal, a step changes nothing; after it, the step goes on as if there had
been no wait; and the wait is entered exactly when a frame ends with no signal. The reference display is always ready, so
that a core with it is never held (R73, decision D21). -/
def Obligations.FrameWaitHoldsUntilSignalled : Prop :=
  (∀ s : State, s.frameHold = true → s.params.display = .supplied → s.frameComposed = false → step s = .next s) ∧
    (∀ s : State, s.frameHold = true → s.params.display = .reference ∨ s.frameComposed = true →
      step s = step { s with frameHold := false }) ∧
    ∀ s : State, (schedulerPhase s).frameHold =
      (decide (s.params.display = .supplied) && !s.frameComposed && due s.params.nLine s && decide (s.ly.toNat + 1 > s.params.lastLine))

/-- Three bytes put where the next step fetches are the bytes it decodes (R101, R89), in every state: a poke makes the
collaborator that serves the address its reference instance (notes/assumptions/13.md). -/
def Obligations.PlacedBytesAreFetched : Prop :=
  ∀ (b0 b1 b2 : Byte) (s : State), fetchInstr (placeFetch b0 b1 b2 s) = decode b0 b1 b2

/-! ### 8-bit loads -/

/-- R130, R131, R132: the register block, all 63 loads. -/
def Obligations.LoadBlock : Prop :=
  ∀ (dst r : Operand8) (s : State), ¬ (dst = .atHL ∧ r = .atHL) →
    Runs (ldBlock dst r) [0b01#2 ++ code dst ++ code r] s { writeR8 dst (readR8 r s) s with pc := s.pc + 1 }

/-- R133, R134: LD r,n and LD (HL),n. -/
def Obligations.LoadImmediate : Prop :=
  ∀ (dst : Operand8) (n : Byte) (s : State),
    Runs (ldImm dst n) [0b00#2 ++ code dst ++ 6#3, n] s { writeR8 dst n s with pc := s.pc + 2 }

/-- R136 to R144, R149: the accumulator and a byte at (BC), (DE), (nn), (0xFF00+n), (0xFF00+C). -/
def Obligations.LoadAccumulator : Prop :=
  ∀ (s : State) (n : Byte) (nn : Word),
    (Runs .ldAtBCA [0x02] s { busWrite (s.b ++ s.c) s.a s with pc := s.pc + 1 } ∧
      Runs .ldAtDEA [0x12] s { busWrite (s.d ++ s.e) s.a s with pc := s.pc + 1 } ∧
      Runs (.ldAtNnA nn) [0xEA, lowByte nn, highByte nn] s { busWrite nn s.a s with pc := s.pc + 3 } ∧
      Runs (.ldhAtNA n) [0xE0, n] s { busWrite (0xFF00 + n.setWidth 16) s.a s with pc := s.pc + 2 } ∧
      Runs .ldAtCA [0xE2] s { busWrite (0xFF00 + s.c.setWidth 16) s.a s with pc := s.pc + 1 }) ∧
    (Runs .ldAAtBC [0x0A] s { s with a := busRead (s.b ++ s.c) s, pc := s.pc + 1 } ∧
      Runs .ldAAtDE [0x1A] s { s with a := busRead (s.d ++ s.e) s, pc := s.pc + 1 } ∧
      Runs (.ldAAtNn nn) [0xFA, lowByte nn, highByte nn] s { s with a := busRead nn s, pc := s.pc + 3 } ∧
      Runs (.ldhAAtN n) [0xF0, n] s { s with a := busRead (0xFF00 + n.setWidth 16) s, pc := s.pc + 2 } ∧
      Runs .ldAAtC [0xF2] s { s with a := busRead (0xFF00 + s.c.setWidth 16) s, pc := s.pc + 1 })

/-- R145 to R148: the loads that step HL; the access is at the old HL. -/
def Obligations.LoadAndStepHL : Prop :=
  ∀ s : State,
    Runs .ldAtHLIncA [0x22] s { setHL (s.hl + 1) (busWrite s.hl s.a s) with pc := s.pc + 1 } ∧
      Runs .ldAAtHLInc [0x2A] s { setHL (s.hl + 1) s with a := busRead s.hl s, pc := s.pc + 1 } ∧
      Runs .ldAtHLDecA [0x32] s { setHL (s.hl - 1) (busWrite s.hl s.a s) with pc := s.pc + 1 } ∧
      Runs .ldAAtHLDec [0x3A] s { setHL (s.hl - 1) s with a := busRead s.hl s, pc := s.pc + 1 }

/-! ### 16-bit loads and the stack -/

/-- R160, R161, R162: LD rp,nn, LD (nn),SP with the low byte first, LD SP,HL. -/
def Obligations.LoadPair : Prop :=
  ∀ (s : State) (nn : Word),
    Runs (ldPairImm .bc nn) [0x01, lowByte nn, highByte nn] s { s with b := highByte nn, c := lowByte nn, pc := s.pc + 3 } ∧
      Runs (ldPairImm .de nn) [0x11, lowByte nn, highByte nn] s { s with d := highByte nn, e := lowByte nn, pc := s.pc + 3 } ∧
      Runs (ldPairImm .hl nn) [0x21, lowByte nn, highByte nn] s { s with h := highByte nn, l := lowByte nn, pc := s.pc + 3 } ∧
      Runs (ldPairImm .sp nn) [0x31, lowByte nn, highByte nn] s { s with sp := nn, pc := s.pc + 3 } ∧
      Runs (.ldAtNnSP nn) [0x08, lowByte nn, highByte nn] s
        { busWrite (nn + 1) (highByte s.sp) (busWrite nn (lowByte s.sp) s) with pc := s.pc + 3 } ∧
      Runs .ldSPHL [0xF9] s { s with sp := s.h ++ s.l, pc := s.pc + 1 }

/-- R163, R213: SP plus a signed offset, with the carries out of bits 3 and 7 of the low byte of SP and the unsigned
byte (the spec's own decision D23). -/
def Obligations.StackPointerOffset : Prop :=
  ∀ (s : State) (e : Int), -128 ≤ e → e ≤ 127 →
    let n : Byte := BitVec.ofInt 8 e
    let flags := flagByte false false (BitVec.carry 4 (lowByte s.sp) n false) (BitVec.carry 8 (lowByte s.sp) n false)
    Runs (.ldHLSPE e) [0xF8, n] s { setHL (s.sp + BitVec.ofInt 16 e) s with f := flags, pc := s.pc + 2 } ∧
      Runs (.addSPE e) [0xE8, n] s { s with sp := s.sp + BitVec.ofInt 16 e, f := flags, pc := s.pc + 2 }

/-- PUSH and POP (41_load16_stack.md, 20_memory.md R82): PUSH stores the high byte at SP-1 and the low byte at SP-2; POP
takes them back. That POP AF masks F with 0xF0 is the spec's own decision D24, which it derives from the invariant of F. -/
def Obligations.PushAndPop : Prop :=
  ∀ s : State,
    (Runs .pushBC [0xC5] s (pushedAndGone (s.b ++ s.c) (s.pc + 1) s) ∧ Runs .pushDE [0xD5] s (pushedAndGone (s.d ++ s.e) (s.pc + 1) s) ∧
      Runs .pushHL [0xE5] s (pushedAndGone (s.h ++ s.l) (s.pc + 1) s) ∧ Runs .pushAF [0xF5] s (pushedAndGone (s.a ++ s.f) (s.pc + 1) s)) ∧
    (Runs .popBC [0xC1] s { s with b := busRead (s.sp + 1) s, c := busRead s.sp s, sp := s.sp + 2, pc := s.pc + 1 } ∧
      Runs .popDE [0xD1] s { s with d := busRead (s.sp + 1) s, e := busRead s.sp s, sp := s.sp + 2, pc := s.pc + 1 } ∧
      Runs .popHL [0xE1] s { s with h := busRead (s.sp + 1) s, l := busRead s.sp s, sp := s.sp + 2, pc := s.pc + 1 } ∧
      Runs .popAF [0xF1] s
        { s with a := busRead (s.sp + 1) s, f := busRead s.sp s &&& 0xF0, sp := s.sp + 2, pc := s.pc + 1 })

/-- R82, R85: a word pushed to plain storage is the word then popped, and the two restore SP. -/
def Obligations.PopUndoesPush : Prop :=
  ∀ (w : Word) (s : State), plainStorage s (s.sp - 1) = true → plainStorage s (s.sp - 2) = true →
    stackWord (push w s) = w ∧ popped (push w s) = w ∧ (dropStack (push w s)).sp = s.sp

/-! ### 8-bit arithmetic and logic -/

/-- R183, R184: ADD and ADC, in every form. -/
def Obligations.AddWithAndWithoutCarry : Prop :=
  AluForms .add 0 (fun v s => added v false s) ∧ AluForms .adc 1 (fun v s => added v (flagC s) s)

/-- R185, R186, R190: SUB, SBC and CP, in every form; CP does not write A. -/
def Obligations.SubtractAndCompare : Prop :=
  AluForms .sub 2 (fun v s => subtracted v false s) ∧ AluForms .sbc 3 (fun v s => subtracted v (flagC s) s) ∧
    AluForms .cp 7 (fun v s => { s with f := subtractFlags v false s })

/-- R187, R188, R189: AND, XOR and OR, in every form. -/
def Obligations.LogicalOperations : Prop :=
  AluForms .and 4 (fun v s => logical (s.a &&& v) true s) ∧ AluForms .xor 5 (fun v s => logical (s.a ^^^ v) false s) ∧
    AluForms .or 6 (fun v s => logical (s.a ||| v) false s)

/-- R193 to R196: INC and DEC of a register and of (HL); Cf unchanged. -/
def Obligations.IncrementDecrement8 : Prop :=
  ∀ (r : Operand8) (s : State),
    let old := readR8 r s
    Runs (incBlock r) [0b00#2 ++ code r ++ 4#3] s
        { writeR8 r (old + 1) s with
          f := flagByte (decide (old = 0xFF)) false (decide (old.extractLsb' 0 4 = 0xF#4)) (flagC s), pc := s.pc + 1 } ∧
      Runs (decBlock r) [0b00#2 ++ code r ++ 5#3] s
        { writeR8 r (old - 1) s with
          f := flagByte (decide (old = 0x01)) true (decide (old.extractLsb' 0 4 = 0x0#4)) (flagC s), pc := s.pc + 1 }

/-- R197: DAA. The correction is the spec's own decision D28. -/
def Obligations.DecimalAdjust : Prop :=
  ∀ s : State,
    let low := flagH s || (!flagN s && decide (s.a.toNat % 16 > 9))
    let high := flagC s || (!flagN s && decide (s.a.toNat > 0x99))
    let correction : Byte := (if low then 0x06 else 0x00) + (if high then 0x60 else 0x00)
    let res := if flagN s then s.a - correction else s.a + correction
    Runs .daa [0x27] s { s with a := res, f := flagByte (decide (res = 0)) (flagN s) false high, pc := s.pc + 1 }

/-- R198, R199, R200: CPL, SCF, CCF. -/
def Obligations.ComplementAndCarry : Prop :=
  ∀ s : State,
    Runs .cpl [0x2F] s { s with a := ~~~ s.a, f := flagByte (flagZ s) true true (flagC s), pc := s.pc + 1 } ∧
      Runs .scf [0x37] s { s with f := flagByte (flagZ s) false false true, pc := s.pc + 1 } ∧
      Runs .ccf [0x3F] s { s with f := flagByte (flagZ s) false false (!flagC s), pc := s.pc + 1 }

/-! ### 16-bit arithmetic -/

/-- R210: ADD HL,rp, with the carries out of bits 11 and 15 and Z unchanged; R211, R212: INC rp and DEC rp, which write
no flag. -/
def Obligations.PairArithmetic : Prop :=
  ∀ (p : Pair) (s : State),
    Runs (addHLPair p) [0b00#2 ++ pairCode p ++ 0b1001#4] s
        { setHL (s.hl + readPair p s) s with
          f := flagByte (flagZ s) false (BitVec.carry 12 s.hl (readPair p s) false) (BitVec.carry 16 s.hl (readPair p s) false)
          pc := s.pc + 1 } ∧
      Runs (incPair p) [0b00#2 ++ pairCode p ++ 0b0011#4] s { writePair p (readPair p s + 1) s with pc := s.pc + 1 } ∧
      Runs (decPair p) [0b00#2 ++ pairCode p ++ 0b1011#4] s { writePair p (readPair p s - 1) s with pc := s.pc + 1 }

/-! ### Rotates, shifts, bits -/

/-- R220 to R223: the accumulator rotates, with Z always 0. -/
def Obligations.RotateAccumulator : Prop :=
  ∀ s : State,
    RotatesA .rlca 0x07 (s.a.rotateLeft 1) (s.a.getLsbD 7) s ∧ RotatesA .rrca 0x0F (s.a.rotateRight 1) (s.a.getLsbD 0) s ∧
      RotatesA .rla 0x17 (s.a.extractLsb' 0 7 ++ BitVec.ofBool (flagC s)) (s.a.getLsbD 7) s ∧
      RotatesA .rra 0x1F (BitVec.ofBool (flagC s) ++ s.a.extractLsb' 1 7) (s.a.getLsbD 0) s

/-- R224 to R231: the eight variants of CB group 0 on every operand. -/
def Obligations.RotateAndShift : Prop :=
  ∀ (r : Operand8) (s : State),
    let old := readR8 r s
    RotateForms .rlc 0 r (old.rotateLeft 1) (old.getLsbD 7) s ∧ RotateForms .rrc 1 r (old.rotateRight 1) (old.getLsbD 0) s ∧
      RotateForms .rl 2 r (old.extractLsb' 0 7 ++ BitVec.ofBool (flagC s)) (old.getLsbD 7) s ∧
      RotateForms .rr 3 r (BitVec.ofBool (flagC s) ++ old.extractLsb' 1 7) (old.getLsbD 0) s ∧
      RotateForms .sla 4 r (old <<< 1) (old.getLsbD 7) s ∧ RotateForms .sra 5 r (old.sshiftRight 1) (old.getLsbD 0) s ∧
      RotateForms .swap 6 r (old.extractLsb' 0 4 ++ old.extractLsb' 4 4) false s ∧ RotateForms .srl 7 r (old >>> 1) (old.getLsbD 0) s

/-- R232, R233, R234: BIT, RES and SET of every bit of every operand; BIT writes no operand, RES and SET no flag. -/
def Obligations.BitTestResetSet : Prop :=
  ∀ (b : BitVec 3) (r : Operand8) (s : State),
    let old := readR8 r s
    Runs (bitBlock b r) [0xCB, 0b01#2 ++ b ++ code r] s
        { s with f := flagByte (!old.getLsbD b.toNat) false true (flagC s), pc := s.pc + 2 } ∧
      Runs (resBlock b r) [0xCB, 0b10#2 ++ b ++ code r] s { writeR8 r (old &&& ~~~ BitVec.twoPow 8 b.toNat) s with pc := s.pc + 2 } ∧
      Runs (setBlock b r) [0xCB, 0b11#2 ++ b ++ code r] s { writeR8 r (old ||| BitVec.twoPow 8 b.toNat) s with pc := s.pc + 2 }

/-! ### Control transfer -/

/-- R250 to R254: the jumps change PC alone; a relative jump adds its offset to the address after the instruction. -/
def Obligations.Jumps : Prop :=
  ∀ (s : State) (cc : Cond) (nn : Word) (e : Int), -128 ≤ e → e ≤ 127 →
    Runs (.jpNn nn) [0xC3, lowByte nn, highByte nn] s { s with pc := nn } ∧
      Runs (jpCond cc nn) [0b110#3 ++ condCode cc ++ 2#3, lowByte nn, highByte nn] s
        { s with pc := if holds cc s then nn else s.pc + 3 } ∧
      Runs .jpAtHL [0xE9] s { s with pc := s.h ++ s.l } ∧
      Runs (.jrE e) [0x18, BitVec.ofInt 8 e] s { s with pc := s.pc + 2 + BitVec.ofInt 16 e } ∧
      Runs (jrCond cc e) [0b001#3 ++ condCode cc ++ 0#3, BitVec.ofInt 8 e] s
        { s with pc := if holds cc s then s.pc + 2 + BitVec.ofInt 16 e else s.pc + 2 }

/-- R256, R257, R261: the calls push the address of the next instruction; R258, R259: the returns pop PC. Not taken,
neither touches the stack. -/
def Obligations.CallsAndReturns : Prop :=
  ∀ (s : State) (cc : Cond) (nn : Word) (t : BitVec 3),
    (Runs (.callNn nn) [0xCD, lowByte nn, highByte nn] s (pushedAndGone (s.pc + 3) nn s) ∧
      Runs (callCond cc nn) [0b110#3 ++ condCode cc ++ 4#3, lowByte nn, highByte nn] s
        (if holds cc s then pushedAndGone (s.pc + 3) nn s else { s with pc := s.pc + 3 }) ∧
      Runs (rstBlock t) [0b11#2 ++ t ++ 7#3] s (pushedAndGone (s.pc + 1) (t.setWidth 16 * 8) s)) ∧
    (Runs .ret [0xC9] s { s with pc := stackWord s, sp := s.sp + 2 } ∧
      Runs (retCond cc) [0b110#3 ++ condCode cc ++ 0#3] s
        (if holds cc s then { s with pc := stackWord s, sp := s.sp + 2 } else { s with pc := s.pc + 1 }))

/-- R260, the spec's own decision D5: RETI pops PC and re-enables, through the delay when `RETI_DELAYED` holds and at once when it does not. -/
def Obligations.ReturnFromInterrupt : Prop :=
  ∀ s : State,
    Runs .reti [0xD9] s
      (if s.params.retiDelayed then { s with pc := stackWord s, sp := s.sp + 2, imeDelay := .armed }
        else { s with pc := stackWord s, sp := s.sp + 2, ime := true, imeDelay := .inactive })

/-! ### System instructions -/

/-- R270, R271: NOP advances PC by one and STOP by two whatever its second byte is, and nothing else changes. That STOP
does nothing is the spec's own decision D7. -/
def Obligations.NopAndStop : Prop :=
  ∀ (s : State) (n : Byte),
    Runs .nop [0x00] s { s with pc := s.pc + 1 } ∧ Runs (.stopN n) [0x10, n] s { s with pc := s.pc + 2 }

/-- R272, R303, R309: HALT sets the bit and advances; a step that starts halted dispatches nothing and runs the other
phases; the bit is cleared at the first boundary with an enabled pending interrupt, whatever IME is. That HALT idles so is
the spec's own decision D6, the order of the phases D3, and that bits 7 to 5 of IF and IE are ignored D11. -/
def Obligations.HaltIdlesUntilWoken : Prop :=
  ∀ s : State,
    Runs .halt [0x76] s { s with halted := true, pc := s.pc + 1 } ∧
      (s.halted = true → s.frameHold = false →
        step s = .next (schedulerPhase (cartPeriodicUpdate (interruptPhase (countdown s))))) ∧
      (interruptPhase s).halted = (s.halted && decide (s.ifReg &&& s.ieReg &&& 0x1F = 0))

/-- R273, R274 and the countdown of R306: DI clears the enable and the delay at once; EI arms the delay and leaves IME,
which the second countdown after it sets. The armed value and the two countdowns are the spec's own encoding of the delay,
its decision D4 (10_state.md R29; notes/assumptions/17.md). -/
def Obligations.DisableAndEnable : Prop :=
  ∀ s : State,
    Runs .di [0xF3] s { s with ime := false, imeDelay := .inactive, pc := s.pc + 1 } ∧
      Runs .ei [0xFB] s { s with imeDelay := .armed, pc := s.pc + 1 } ∧
      countdown { s with imeDelay := .armed } = { s with imeDelay := .expiring } ∧
      countdown (countdown { s with imeDelay := .armed }) = { s with ime := true, imeDelay := .inactive }

/-- R275: an unknown opcode changes nothing but PC, and emits one diagnostic. That it is one byte long and PC moves by one
is the spec's own decision D8. -/
def Obligations.UnknownOpcodes : Prop :=
  ∀ (s : State) (op b1 b2 : Byte), op ∈ unknownOpcodes →
    Runs (decode op b1 b2) [op] s { s with events := s.events ++ [.unknownOpcode op s.pc], pc := s.pc + 1 }

/-! ### Frames over every instruction -/

/-- Every byte an instruction does not store to reads as before, with every instance of the collaborators. The bytes stored
are those at `storeAddrs i s`; what else a store may change is `leavesAlone`'s to say (the windows that follow the bank
register, and what a supplied collaborator's contract lets its write change). Where a supplied I/O handler computes the
read from the whole state, the byte stored there is the one that stays. -/
def Obligations.InstructionsKeepOtherMemory : Prop :=
  ∀ (i : Instr) (s t : State) (x : Word), exec i s = .next t → (∀ a ∈ storeAddrs i s, leavesAlone s a x = true) →
    (computedRead s x = false → busRead x t = busRead x s) ∧ (regionOf x = .io → ioGet (lo8 x) t = ioGet (lo8 x) s)

/-- What no instruction changes: the counter, the double-speed switch, the host's inputs, the frame wait, the parameters,
the cartridge's image. And only DI, EI and RETI write the enable or its delay (R305), only HALT writes the halt bit (R30),
only an unknown opcode produces an event (R346). -/
def Obligations.InstructionsKeepControlState : Prop :=
  ∀ (i : Instr) (s t : State), exec i s = .next t →
    (t.instrCount = s.instrCount ∧ t.doubleSpeed = s.doubleSpeed ∧ t.frameComposed = s.frameComposed ∧ t.frameHold = s.frameHold ∧
      t.terminate = s.terminate ∧ t.params = s.params ∧ t.rom = s.rom ∧ t.ioInput = s.ioInput) ∧
    (changesEnable i = false → t.ime = s.ime ∧ t.imeDelay = s.imeDelay) ∧ (i ≠ .halt → t.halted = s.halted) ∧
      (unknownOpcodes.contains ((encode i).headD 0) = false → t.events = s.events)

/-- An instruction outside the flag-writing opcodes keeps F, and one outside the stack instructions and the loads and
arithmetic of SP keeps SP (R25, R26, R135). -/
def Obligations.InstructionsKeepFlagsAndStackPointer : Prop :=
  ∀ (i : Instr) (s t : State), exec i s = .next t →
    (writesFlags ((encode i).headD 0) ((encode i).getD 1 0) = false → t.f = s.f) ∧ (movesSP i = false → t.sp = s.sp)

/-- Nothing after the dispatch writes A to L or F, and SP, PC and memory change only where an interrupt is serviced (R26,
R312, R330). The order of the phases is the spec's own decision D3, and that bits 7 to 5 of IF and IE start no service its
decision D11. -/
def Obligations.LaterPhasesKeepAToLAndF : Prop :=
  ∀ s : State,
    let t := schedulerPhase (cartPeriodicUpdate (interruptPhase (countdown s)))
    (t.a = s.a ∧ t.b = s.b ∧ t.c = s.c ∧ t.d = s.d ∧ t.e = s.e ∧ t.h = s.h ∧ t.l = s.l ∧ t.f = s.f) ∧
      (s.ifReg &&& s.ieReg &&& 0x1F = 0 →
        t.sp = s.sp ∧ t.pc = s.pc ∧ t.wram = s.wram ∧ t.oam = s.oam ∧ t.cram = s.cram ∧ t.vram = s.vram ∧ t.io = s.io ∧
          t.wramBank = s.wramBank ∧ t.dispState = s.dispState)

/-! ### The bus -/

/-- R62: the handler each address is read from. -/
def Obligations.BusReadMap : Prop :=
  ∀ (s : State) (a : Word),
    (a.toNat ≤ 0x7FFF → busRead a s = cartRead a s) ∧
      (0x8000 ≤ a.toNat → a.toNat ≤ 0x9FFF → busRead a s = displayRead (a - 0x8000) s) ∧
      (0xA000 ≤ a.toNat → a.toNat ≤ 0xBFFF → busRead a s = cartRead a s) ∧
      (0xC000 ≤ a.toNat → a.toNat ≤ 0xCFFF → busRead a s = readCell .wram s.wram (a.toNat - 0xC000)) ∧
      (0xD000 ≤ a.toNat → a.toNat ≤ 0xDFFF →
        busRead a s = readCell .wram s.wram (a.toNat - 0xD000 + s.wramBank.toNat * 4096)) ∧
      (0xE000 ≤ a.toNat → a.toNat ≤ 0xFDFF → busRead a s = busRead (a - 0x2000) s) ∧
      (0xFE00 ≤ a.toNat → a.toNat ≤ 0xFEFF → busRead a s = readCell .oam s.oam (a.toNat - 0xFE00)) ∧
      (0xFF00 ≤ a.toNat → busRead a s = ioRead (BitVec.ofNat 8 (a.toNat - 0xFF00)) s)

/-- R63: what a write to each address changes, through its handler, and that it changes nothing else. -/
def Obligations.BusWriteMap : Prop :=
  ∀ (s : State) (a : Word) (v : Byte),
    (a.toNat ≤ 0x7FFF → busWrite a v s = cartWrite a v s) ∧
      (0x8000 ≤ a.toNat → a.toNat ≤ 0x9FFF → busWrite a v s = displayWrite (a - 0x8000) v s) ∧
      (0xA000 ≤ a.toNat → a.toNat ≤ 0xBFFF → busWrite a v s = cartWrite a v s) ∧
      (0xC000 ≤ a.toNat → a.toNat ≤ 0xCFFF → busWrite a v s = { s with wram := memSet s.wram (a.toNat - 0xC000) v }) ∧
      (0xD000 ≤ a.toNat → a.toNat ≤ 0xDFFF →
        busWrite a v s = { s with wram := memSet s.wram (a.toNat - 0xD000 + s.wramBank.toNat * 4096) v }) ∧
      (0xE000 ≤ a.toNat → a.toNat ≤ 0xFDFF → busWrite a v s = busWrite (a - 0x2000) v s) ∧
      (0xFE00 ≤ a.toNat → a.toNat ≤ 0xFEFF → busWrite a v s = { s with oam := memSet s.oam (a.toNat - 0xFE00) v }) ∧
      (0xFF00 ≤ a.toNat → busWrite a v s = ioWrite (BitVec.ofNat 8 (a.toNat - 0xFF00)) v s)

/-- R75 to R78, the spec's own decision D20: the reference I/O handler. A write stores its byte, but resets the scanline
and the divider; the timer control sets the enable and the rate, the bank register of an ENHANCED core the bank. -/
def Obligations.IoHandler : Prop :=
  ∀ (s : State) (o v x : Byte), s.params.ioHandler = .reference →
    ioRead x s = ioGet x s ∧
      ioGet x (ioWrite o v s) = (if x = o then (if o = 0x44 ∨ o = 0x04 then 0 else v) else ioGet x s) ∧
      (ioWrite o v s).timerEnabled = (if o = 0x07 then v.getLsbD 2 else s.timerEnabled) ∧
      (ioWrite o v s).timaRate = (if o = 0x07 then v.extractLsb' 0 2 else s.timaRate) ∧
      (ioWrite o v s).wramBank =
        (if o = 0x70 ∧ s.params.enhanced = true then (if v.extractLsb' 0 3 = 0 then 1 else v.extractLsb' 0 3) else s.wramBank) ∧
      sameCore s (ioWrite o v s) ∧ (ioWrite o v s).wram = s.wram ∧ (ioWrite o v s).oam = s.oam ∧
      (ioWrite o v s).cram = s.cram ∧ (ioWrite o v s).vram = s.vram ∧ (ioWrite o v s).cartState = s.cartState ∧
      (ioWrite o v s).dispState = s.dispState

/-- R71, R73, the spec's own decision D21: the reference cartridge (an image that a write does not change, an 8192-byte
RAM, and an identity hook) and the reference display (8192 bytes). -/
def Obligations.ReferenceCartridgeAndDisplay : Prop :=
  ∀ (s : State) (a x : Word) (v : Byte), s.params.cartridge = .reference → s.params.display = .reference →
    (a ≤ 0x7FFF → cartWrite a v s = s ∧ cartRead a s = readCell .rom s.rom a.toNat) ∧
      (0xA000 ≤ a → a ≤ 0xBFFF → cartRead a (cartWrite a v s) = v ∧ cartRead a s = readCell .cram s.cram (a.toNat - 0xA000)) ∧
      (0xA000 ≤ a → a ≤ 0xBFFF → x ≠ a → (x ≤ 0x7FFF ∨ (0xA000 ≤ x ∧ x ≤ 0xBFFF)) → cartRead x (cartWrite a v s) = cartRead x s) ∧
      cartPeriodicUpdate s = s ∧
      (displayRead a s = readCell .vram s.vram a.toNat ∧ displayRead a (displayWrite a v s) = v ∧
        (x ≠ a → displayRead x (displayWrite a v s) = displayRead x s)) ∧
      sameCore s (cartWrite a v s) ∧ sameCore s (displayWrite a v s)

/-- R66, the spec's own decision D19: the mirror window is the same access 0x2000 below, which a read after a write through either shows. -/
def Obligations.MirrorWindow : Prop :=
  ∀ (s : State) (a : Word) (v : Byte), 0xE000 ≤ a.toNat → a.toNat ≤ 0xFDFF →
    busRead a s = busRead (a - 0x2000) s ∧ busWrite a v s = busWrite (a - 0x2000) v s ∧
      busRead (a - 0x2000) (busWrite a v s) = v ∧ busRead a (busWrite (a - 0x2000) v s) = v

/-- R85: a read after a write of the same address returns the byte written, in the work RAM, the sprite block and the
I/O block where the handler's storage is plain (the two bytes of R74 with any handler; all but two offsets with the
reference handler, and there it returns 0). -/
def Obligations.ReadAfterWrite : Prop :=
  ∀ (s : State) (a : Word) (v : Byte),
    (plainStorage s a = true → busRead a (busWrite a v s) = v) ∧
      (s.params.ioHandler = .reference → a = 0xFF04 ∨ a = 0xFF44 → busRead a (busWrite a v s) = 0)

/-- R63 "A write changes nothing but what its case names", with every instance of the collaborators: a byte it leaves
alone reads as before (where a supplied I/O handler computes the read, the byte stored there stays), and the registers,
the flags and the control state stay. -/
def Obligations.BusWriteKeepsTheRest : Prop :=
  ∀ (s : State) (a x : Word) (v : Byte),
    (leavesAlone s a x = true →
        (computedRead s x = false → busRead x (busWrite a v s) = busRead x s) ∧
          (regionOf x = .io → ioGet (lo8 x) (busWrite a v s) = ioGet (lo8 x) s)) ∧
      sameCore s (busWrite a v s)

/-! ### Interrupts -/

/-- R306: the countdown. The three values and the countdown at every step are the spec's own decision D4
(notes/assumptions/17.md: they are three constructors). -/
def Obligations.Countdown : Prop :=
  ∀ s : State,
    (s.imeDelay = .armed → countdown s = { s with imeDelay := .expiring }) ∧
      (s.imeDelay = .expiring → countdown s = { s with ime := true, imeDelay := .inactive }) ∧
      (s.imeDelay = .inactive → countdown s = s)

/-- R309, R310: the wake-up test comes first and does not depend on IME (the spec's own decision D6); with IME clear or
nothing enabled pending, nothing else happens, where bits 7 to 5 of IF and IE are ignored (its decision D11). -/
def Obligations.WakeUpWithoutService : Prop :=
  ∀ s : State, s.ime = false ∨ s.ifReg &&& s.ieReg &&& 0x1F = 0 →
    interruptPhase s = { s with halted := s.halted && decide (s.ifReg &&& s.ieReg &&& 0x1F = 0) }

/-- R310, R311, R312: with IME set and `k` the lowest bit set in IF and IE, PC is pushed, IME and that one pending bit
are cleared, and PC becomes the vector of `k`. The spec's own decisions: D6, that the halt ends first (R309); D10, the bit
of each class (R39); D11, that `k` is chosen before the pushes and bits 7 to 5 are ignored. -/
def Obligations.InterruptService : Prop :=
  ∀ (s : State) (k : Nat), s.ime = true → k < 5 → (s.ifReg &&& s.ieReg).getLsbD k = true →
    (∀ j : Nat, j < k → (s.ifReg &&& s.ieReg).getLsbD j = false) →
      let pushed := pushedAndGone s.pc (0x0040 + BitVec.ofNat 16 (8 * k)) { s with halted := false }
      interruptPhase s = { pushed with ime := false, ifReg := pushed.ifReg &&& ~~~ BitVec.twoPow 8 k }

/-- R308, with the masks and vectors of R39: raising a class sets its bit, unconditionally or only if the class is
enabled. The bit of each class, and so its mask, is the spec's own decision D10. -/
def Obligations.RaisingInterrupts : Prop :=
  (IntClass.verticalBlank.mask = 0x01 ∧ IntClass.displayStatus.mask = 0x02 ∧ IntClass.timer.mask = 0x04 ∧
      IntClass.serial.mask = 0x08 ∧ IntClass.input.mask = 0x10) ∧
    (IntClass.verticalBlank.vector = 0x40 ∧ IntClass.displayStatus.vector = 0x48 ∧ IntClass.timer.vector = 0x50 ∧
      IntClass.serial.vector = 0x58 ∧ IntClass.input.vector = 0x60) ∧
    ∀ (k : IntClass) (s : State),
      triggerInterrupt k s = { s with ifReg := s.ifReg ||| k.mask } ∧
        (s.ieReg.getLsbD k.bit = true → triggerInterruptIfEnabled k s = triggerInterrupt k s) ∧
        (s.ieReg.getLsbD k.bit = false → triggerInterruptIfEnabled k s = s)

/-- R307, which the spec marks as derived: after EI nothing is serviced at its own boundary; the next instruction, unless
it changes the enable itself, runs in full, and an enabled pending interrupt is then serviced at its boundary. The values
of the delay are the spec's own decision D4 (R29, R306; notes/assumptions/17.md), and that the countdown and the service
follow the dispatch in the same step is its decision D3 (R301). -/
def Obligations.EnableDelay : Prop :=
  (∀ s : State, s.halted = false → s.frameHold = false → s.ime = false → fetchInstr s = .ei →
      ∃ t, step s = .next t ∧ t.ime = false ∧ t.imeDelay = .expiring ∧ t.pc = s.pc + 1 ∧ t.sp = s.sp) ∧
    ∀ s u : State, s.halted = false → s.frameHold = false → s.imeDelay = .expiring → changesEnable (fetchInstr s) = false →
      exec (fetchInstr s) s = .next u → u.ifReg &&& u.ieReg &&& 0x1F ≠ 0 →
        ∃ t, step s = .next t ∧ t.ime = false ∧ t.imeDelay = .inactive ∧ t.halted = false ∧ t.sp = u.sp - 2 ∧
          ∃ k : Nat, k < 5 ∧ t.pc = 0x0040 + BitVec.ofNat 16 (8 * k)

/-! ### The timer scheduler -/

/-- R330, R381: a step that is not held in the frame wait counts one, whatever it dispatched, and a step that is held
counts none (the wait is the model's own state, notes/assumptions/9.md). The unbounded count is the spec's own
decision D14 (R32). -/
def Obligations.EveryStepCountsOne : Prop :=
  ∀ s t : State, step s = .next t →
    (s.frameHold = false ∨ s.params.display = .reference ∨ s.frameComposed = true → t.instrCount = s.instrCount + 1) ∧
      (s.frameHold = true ∧ s.params.display = .supplied ∧ s.frameComposed = false → t.instrCount = s.instrCount)

/-- R331, with the count of R34: the divider. The count tested is that after the step's own increment, by `mod`, and the
divider is the first of the ticks: the spec's own decisions D14 and D27 (R330). Its offset is decision D12 (R38). -/
def Obligations.DividerTick : Prop :=
  ∀ s : State,
    (schedulerPhase s).div = (if (s.instrCount + 1) % (s.params.nDiv * (if s.doubleSpeed then 2 else 1)) = 0 then s.div + 1 else s.div)

/-- R332: the timer counts when it is enabled and due, and at 0xFF reloads from the modulo and raises its class if that
class is enabled; nothing else sets the timer bit in this phase. The test after the increment, by `mod`, and the order of
the ticks are the spec's own decisions D14 and D27 (R330); the registers and the rate selection are its decision D12 (R33,
R38), the double count is R34, and the bit of the class its decision D10 (R39). -/
def Obligations.TimerTick : Prop :=
  ∀ s : State,
    (schedulerPhase s).tima = (if timerDue s then (if s.tima = 0xFF then s.tma else s.tima + 1) else s.tima) ∧
      (schedulerPhase s).ifReg.getLsbD 2 = (s.ifReg.getLsbD 2 || (timerDue s && decide (s.tima = 0xFF) && s.ieReg.getLsbD 2))

/-- R333 to R336, the spec's own decisions D15 to D17: the scanline advances and wraps; the display-status class is raised on a visible line whose condition
holds, the vertical-blank class on the first blank line, both whatever is enabled; the display and audio notifications are
emitted in order; the bits of the other classes stay. -/
def Obligations.ScanlineTick : Prop :=
  ∀ s : State,
    let tick := due s.params.nLine s
    let line := enteredLine s
    let t := schedulerPhase s
    t.ly = (if tick then BitVec.ofNat 8 line else s.ly) ∧
      t.ifReg.getLsbD 0 = (s.ifReg.getLsbD 0 || (tick && decide (line = s.params.visibleLines))) ∧
      t.ifReg.getLsbD 1 =
        (s.ifReg.getLsbD 1 || (tick && decide (line < s.params.visibleLines) &&
          ((s.stat.getLsbD 6 && decide (s.lyc.toNat = line)) || s.stat.getLsbD 3))) ∧
      t.ifReg.extractLsb' 3 5 = s.ifReg.extractLsb' 3 5 ∧
      t.events = s.events ++ (if tick then
        (if s.ly.toNat < s.params.visibleLines then [.notifyScanline s.ly.toNat] else []) ++
          (if line = s.params.visibleLines then
            (List.range' line (s.params.lastLine + 1 - line)).map .notifyScanline else []) ++
          (if s.ly.toNat + 1 > s.params.lastLine then [.notifyAudioFrame] else []) else [])

/-! ### The collaborators' contracts -/

/-- R70, R72 and R74, the spec's own decisions D20 and D21: what the contracts say of every instance, the supplied ones
too. A supplied cartridge and display answer by their own functions of their own state. A cartridge changes nothing but the
cartridge, a display nothing but the display. An I/O handler changes no register, no flag, not IME, its
delay, the halt bit or the counter, and no cartridge; it stores IF and IE as written and returns them as stored; it keeps
the bank off 0, and without ENHANCED as it is; it sets the timer's enable and rate only at a write of the timer control
(R33). No event, no `terminate` or `frame_composed`, no count and no IME alters what it answers or does (R346, R41, R32,
R28). -/
def Obligations.CollaboratorContracts : Prop :=
  (∀ (s : State) (a : Word) (v : Byte), s.params.cartridge = .supplied →
      cartRead a s = Config.Cartridge.read s.cartState a ∧
        cartWrite a v s = { s with cartState := Config.Cartridge.write s.cartState a v } ∧
        cartDebugWrite a v s = { s with cartState := Config.Cartridge.debugWrite s.cartState a v } ∧
        cartPeriodicUpdate s = { s with cartState := Config.Cartridge.periodicUpdate s.cartState }) ∧
    (∀ (s : State) (o : BitVec 13) (v : Byte), s.params.display = .supplied →
      busRead (0x8000 + o.setWidth 16) s = Config.Display.read s.dispState o ∧
        busWrite (0x8000 + o.setWidth 16) v s = { s with dispState := Config.Display.write s.dispState o v }) ∧
    (∀ (s : State) (a : Word) (v : Byte),
      let t := cartWrite a v s
      let u := cartPeriodicUpdate s
      let w := displayWrite a v s
      t = { s with cram := t.cram, cartState := t.cartState } ∧ u = { s with cartState := u.cartState } ∧
        w = { s with vram := w.vram, dispState := w.dispState }) ∧
    ∀ (s : State) (o v : Byte),
      let t := ioWrite o v s
      sameCore s t ∧ (t.cram = s.cram ∧ t.cartState = s.cartState) ∧
        (o = 0x0F → t.ifReg = v ∧ ioRead o t = v) ∧ (o = 0xFF → t.ieReg = v ∧ ioRead o t = v) ∧
        (ioRead 0x0F s = s.ifReg ∧ ioRead 0xFF s = s.ieReg) ∧
        (s.wramBank ≠ 0 → t.wramBank ≠ 0) ∧ (s.params.enhanced = false → t.wramBank = s.wramBank) ∧
        (s.params.ioHandler = .supplied → isInterruptOffset o = false →
          ioRead o s = Config.IoHandler.read (handlerView s) o ∧
            t = applyIoEffect o (Config.IoHandler.write (handlerView s) o v) s) ∧
        (o ≠ 0x07 → t.timerEnabled = s.timerEnabled ∧ t.timaRate = s.timaRate) ∧
        ∀ (trace : List Event) (stop ready enable : Bool) (count : Nat),
          let hide := fun u : State =>
            { u with events := trace, terminate := stop, frameComposed := ready, instrCount := count, ime := enable }
          ioRead o (hide s) = ioRead o s ∧ ioWrite o v (hide s) = hide t
end

