-- ==== Sys2Proof/Laws/Bits.lean ====
section
/-! SUPPORT. The small laws of halves, pairs and the signed reading of an immediate. -/

namespace Sys2Proof

@[simp] theorem hi8_join (h l : Byte) : hi8 (join h l) = h := by
  simp only [hi8, join]
  exact BitVec.extractLsb'_append_eq_left

@[simp] theorem lo8_join (h l : Byte) : lo8 (join h l) = l := by
  simp only [lo8, join]
  exact BitVec.extractLsb'_append_eq_right

@[simp] theorem join_hi8_lo8 (w : Word) : join (hi8 w) (lo8 w) = w := by
  apply BitVec.eq_of_toNat_eq
  simp only [join, hi8, lo8, BitVec.toNat_append, BitVec.extractLsb'_toNat, Nat.shiftRight_zero]
  rw [Nat.shiftLeft_eq, ← Nat.shiftLeft_eq, ← Nat.shiftLeft_add_eq_or_of_lt (Nat.mod_lt _ (by decide)), Nat.shiftLeft_eq,
    Nat.shiftRight_eq_div_pow]
  have := w.isLt
  omega

@[simp] theorem offsetByte_signedOffset (b : Byte) : offsetByte (signedOffset b) = b := by
  simp [offsetByte, signedOffset]

/-- R103: an offset of -128 to 127 is read back from its byte. -/
theorem signedOffset_offsetByte {e : Int} (h : offsetFits e = true) : signedOffset (offsetByte e) = e := by
  simp only [offsetFits, Bool.and_eq_true, decide_eq_true_eq] at h
  simp only [signedOffset, offsetByte, BitVec.toInt_ofInt]
  exact Int.bmod_eq_of_le (by omega) (by omega)

theorem offsetFits_signedOffset (b : Byte) : offsetFits (signedOffset b) = true := by
  have h1 := b.le_toInt
  have h2 := b.toInt_lt
  have h : -128 ≤ b.toInt ∧ b.toInt ≤ 127 := by omega
  simp [offsetFits, signedOffset, h.1, h.2]

end Sys2Proof
end

