-- ==== Sys2Proof/Laws/Memory.lean ====
section
/-! SUPPORT. The laws of the cell lists: read after write, a write leaves every other index alone, and a write keeps the
canonical form. -/

namespace Sys2Proof.Machine

@[simp] theorem memGet_memSet_same (m : Memory) (i : Nat) (v : Byte) : memGet (memSet m i v) i = some v := by
  induction m with
  | nil => simp [memSet, memGet]
  | cons c m ih =>
    obtain ⟨j, w⟩ := c
    simp only [memSet]
    split
    · simp [memGet]
    · split
      · simp [memGet]
      · simp [memGet, *]

theorem memGet_memSet_ne (m : Memory) {i k : Nat} (v : Byte) (h : k ≠ i) : memGet (memSet m i v) k = memGet m k := by
  induction m with
  | nil => simp [memSet, memGet, h]
  | cons c m ih =>
    obtain ⟨j, w⟩ := c
    simp only [memSet]
    split
    · simp [memGet, h]
    · split
      · subst j
        simp [memGet, h]
      · simp [memGet, ih]

@[simp] theorem readCell_memSet_same (st : Store) (m : Memory) (i : Nat) (v : Byte) :
    readCell st (memSet m i v) i = v := by simp [readCell]

theorem readCell_memSet_ne (st : Store) (m : Memory) {i k : Nat} (v : Byte) (h : k ≠ i) :
    readCell st (memSet m i v) k = readCell st m k := by simp [readCell, memGet_memSet_ne m v h]

/-- What a write does to a cell that may or may not be the one read. -/
theorem readCell_memSet (st : Store) (m : Memory) (i k : Nat) (v : Byte) :
    readCell st (memSet m i v) k = if k = i then v else readCell st m k := by
  by_cases h : k = i
  · subst h
    simp
  · simp [h, readCell_memSet_ne st m v h]

/-- A write keeps the indices rising and in range. -/
theorem memWfFrom_memSet {size i : Nat} (v : Byte) (hi : i < size) :
    ∀ (m : Memory) (lo : Nat), lo ≤ i → memWfFrom size lo m = true → memWfFrom size lo (memSet m i v) = true
  | [], lo, hl, _ => by simp [memSet, memWfFrom, hl, hi]
  | (j, w) :: m, lo, hl, h => by
    simp only [memWfFrom, Bool.and_eq_true, decide_eq_true_eq] at h
    obtain ⟨⟨hj, hs⟩, hm⟩ := h
    simp only [memSet]
    split
    · have : i + 1 ≤ j := by omega
      simp [memWfFrom, *]
    · split
      · subst j
        simp [memWfFrom, *]
      · have := memWfFrom_memSet v hi m (j + 1) (by omega) hm
        simp [memWfFrom, *]

/-- Every write inside a storage element keeps its canonical form. -/
theorem memWf_memSet {size i : Nat} (m : Memory) (v : Byte) (hi : i < size) (h : memWf size m = true) :
    memWf size (memSet m i v) = true := memWfFrom_memSet v hi m 0 (Nat.zero_le i) h

/-- The memories of the reset state are in canonical form. -/
@[simp] theorem memWf_nil (size : Nat) : memWf size [] = true := rfl

end Sys2Proof.Machine
end

