-- ==== Sys2Proof/Laws/State.lean ====
section
/-! SUPPORT. The named updates of the state, field by field: what each leaves alone and what it writes, all by rfl, so
that no later proof unfolds a record update. -/

namespace Sys2Proof.Machine

/-! ### setBC -/

@[simp] theorem setBC_a (w : Word) (s : State) : (setBC w s).a = s.a := rfl
@[simp] theorem setBC_b (w : Word) (s : State) : (setBC w s).b = hi8 w := rfl
@[simp] theorem setBC_c (w : Word) (s : State) : (setBC w s).c = lo8 w := rfl
@[simp] theorem setBC_d (w : Word) (s : State) : (setBC w s).d = s.d := rfl
@[simp] theorem setBC_e (w : Word) (s : State) : (setBC w s).e = s.e := rfl
@[simp] theorem setBC_h (w : Word) (s : State) : (setBC w s).h = s.h := rfl
@[simp] theorem setBC_l (w : Word) (s : State) : (setBC w s).l = s.l := rfl
@[simp] theorem setBC_f (w : Word) (s : State) : (setBC w s).f = s.f := rfl
@[simp] theorem setBC_sp (w : Word) (s : State) : (setBC w s).sp = s.sp := rfl
@[simp] theorem setBC_pc (w : Word) (s : State) : (setBC w s).pc = s.pc := rfl
@[simp] theorem setBC_ime (w : Word) (s : State) : (setBC w s).ime = s.ime := rfl
@[simp] theorem setBC_imeDelay (w : Word) (s : State) : (setBC w s).imeDelay = s.imeDelay := rfl
@[simp] theorem setBC_halted (w : Word) (s : State) : (setBC w s).halted = s.halted := rfl
@[simp] theorem setBC_instrCount (w : Word) (s : State) : (setBC w s).instrCount = s.instrCount := rfl
@[simp] theorem setBC_timerEnabled (w : Word) (s : State) : (setBC w s).timerEnabled = s.timerEnabled := rfl
@[simp] theorem setBC_timaRate (w : Word) (s : State) : (setBC w s).timaRate = s.timaRate := rfl
@[simp] theorem setBC_doubleSpeed (w : Word) (s : State) : (setBC w s).doubleSpeed = s.doubleSpeed := rfl
@[simp] theorem setBC_div (w : Word) (s : State) : (setBC w s).div = s.div := rfl
@[simp] theorem setBC_tima (w : Word) (s : State) : (setBC w s).tima = s.tima := rfl
@[simp] theorem setBC_tma (w : Word) (s : State) : (setBC w s).tma = s.tma := rfl
@[simp] theorem setBC_tac (w : Word) (s : State) : (setBC w s).tac = s.tac := rfl
@[simp] theorem setBC_ifReg (w : Word) (s : State) : (setBC w s).ifReg = s.ifReg := rfl
@[simp] theorem setBC_lcdc (w : Word) (s : State) : (setBC w s).lcdc = s.lcdc := rfl
@[simp] theorem setBC_stat (w : Word) (s : State) : (setBC w s).stat = s.stat := rfl
@[simp] theorem setBC_ly (w : Word) (s : State) : (setBC w s).ly = s.ly := rfl
@[simp] theorem setBC_lyc (w : Word) (s : State) : (setBC w s).lyc = s.lyc := rfl
@[simp] theorem setBC_ieReg (w : Word) (s : State) : (setBC w s).ieReg = s.ieReg := rfl
@[simp] theorem setBC_io (w : Word) (s : State) : (setBC w s).io = s.io := rfl
@[simp] theorem setBC_wram (w : Word) (s : State) : (setBC w s).wram = s.wram := rfl
@[simp] theorem setBC_wramBank (w : Word) (s : State) : (setBC w s).wramBank = s.wramBank := rfl
@[simp] theorem setBC_oam (w : Word) (s : State) : (setBC w s).oam = s.oam := rfl
@[simp] theorem setBC_rom (w : Word) (s : State) : (setBC w s).rom = s.rom := rfl
@[simp] theorem setBC_cram (w : Word) (s : State) : (setBC w s).cram = s.cram := rfl
@[simp] theorem setBC_vram (w : Word) (s : State) : (setBC w s).vram = s.vram := rfl
@[simp] theorem setBC_cartState (w : Word) (s : State) : (setBC w s).cartState = s.cartState := rfl
@[simp] theorem setBC_dispState (w : Word) (s : State) : (setBC w s).dispState = s.dispState := rfl
@[simp] theorem setBC_ioInput (w : Word) (s : State) : (setBC w s).ioInput = s.ioInput := rfl
@[simp] theorem setBC_events (w : Word) (s : State) : (setBC w s).events = s.events := rfl
@[simp] theorem setBC_frameComposed (w : Word) (s : State) : (setBC w s).frameComposed = s.frameComposed := rfl
@[simp] theorem setBC_frameHold (w : Word) (s : State) : (setBC w s).frameHold = s.frameHold := rfl
@[simp] theorem setBC_terminate (w : Word) (s : State) : (setBC w s).terminate = s.terminate := rfl
@[simp] theorem setBC_params (w : Word) (s : State) : (setBC w s).params = s.params := rfl

/-! ### setDE -/

@[simp] theorem setDE_a (w : Word) (s : State) : (setDE w s).a = s.a := rfl
@[simp] theorem setDE_b (w : Word) (s : State) : (setDE w s).b = s.b := rfl
@[simp] theorem setDE_c (w : Word) (s : State) : (setDE w s).c = s.c := rfl
@[simp] theorem setDE_d (w : Word) (s : State) : (setDE w s).d = hi8 w := rfl
@[simp] theorem setDE_e (w : Word) (s : State) : (setDE w s).e = lo8 w := rfl
@[simp] theorem setDE_h (w : Word) (s : State) : (setDE w s).h = s.h := rfl
@[simp] theorem setDE_l (w : Word) (s : State) : (setDE w s).l = s.l := rfl
@[simp] theorem setDE_f (w : Word) (s : State) : (setDE w s).f = s.f := rfl
@[simp] theorem setDE_sp (w : Word) (s : State) : (setDE w s).sp = s.sp := rfl
@[simp] theorem setDE_pc (w : Word) (s : State) : (setDE w s).pc = s.pc := rfl
@[simp] theorem setDE_ime (w : Word) (s : State) : (setDE w s).ime = s.ime := rfl
@[simp] theorem setDE_imeDelay (w : Word) (s : State) : (setDE w s).imeDelay = s.imeDelay := rfl
@[simp] theorem setDE_halted (w : Word) (s : State) : (setDE w s).halted = s.halted := rfl
@[simp] theorem setDE_instrCount (w : Word) (s : State) : (setDE w s).instrCount = s.instrCount := rfl
@[simp] theorem setDE_timerEnabled (w : Word) (s : State) : (setDE w s).timerEnabled = s.timerEnabled := rfl
@[simp] theorem setDE_timaRate (w : Word) (s : State) : (setDE w s).timaRate = s.timaRate := rfl
@[simp] theorem setDE_doubleSpeed (w : Word) (s : State) : (setDE w s).doubleSpeed = s.doubleSpeed := rfl
@[simp] theorem setDE_div (w : Word) (s : State) : (setDE w s).div = s.div := rfl
@[simp] theorem setDE_tima (w : Word) (s : State) : (setDE w s).tima = s.tima := rfl
@[simp] theorem setDE_tma (w : Word) (s : State) : (setDE w s).tma = s.tma := rfl
@[simp] theorem setDE_tac (w : Word) (s : State) : (setDE w s).tac = s.tac := rfl
@[simp] theorem setDE_ifReg (w : Word) (s : State) : (setDE w s).ifReg = s.ifReg := rfl
@[simp] theorem setDE_lcdc (w : Word) (s : State) : (setDE w s).lcdc = s.lcdc := rfl
@[simp] theorem setDE_stat (w : Word) (s : State) : (setDE w s).stat = s.stat := rfl
@[simp] theorem setDE_ly (w : Word) (s : State) : (setDE w s).ly = s.ly := rfl
@[simp] theorem setDE_lyc (w : Word) (s : State) : (setDE w s).lyc = s.lyc := rfl
@[simp] theorem setDE_ieReg (w : Word) (s : State) : (setDE w s).ieReg = s.ieReg := rfl
@[simp] theorem setDE_io (w : Word) (s : State) : (setDE w s).io = s.io := rfl
@[simp] theorem setDE_wram (w : Word) (s : State) : (setDE w s).wram = s.wram := rfl
@[simp] theorem setDE_wramBank (w : Word) (s : State) : (setDE w s).wramBank = s.wramBank := rfl
@[simp] theorem setDE_oam (w : Word) (s : State) : (setDE w s).oam = s.oam := rfl
@[simp] theorem setDE_rom (w : Word) (s : State) : (setDE w s).rom = s.rom := rfl
@[simp] theorem setDE_cram (w : Word) (s : State) : (setDE w s).cram = s.cram := rfl
@[simp] theorem setDE_vram (w : Word) (s : State) : (setDE w s).vram = s.vram := rfl
@[simp] theorem setDE_cartState (w : Word) (s : State) : (setDE w s).cartState = s.cartState := rfl
@[simp] theorem setDE_dispState (w : Word) (s : State) : (setDE w s).dispState = s.dispState := rfl
@[simp] theorem setDE_ioInput (w : Word) (s : State) : (setDE w s).ioInput = s.ioInput := rfl
@[simp] theorem setDE_events (w : Word) (s : State) : (setDE w s).events = s.events := rfl
@[simp] theorem setDE_frameComposed (w : Word) (s : State) : (setDE w s).frameComposed = s.frameComposed := rfl
@[simp] theorem setDE_frameHold (w : Word) (s : State) : (setDE w s).frameHold = s.frameHold := rfl
@[simp] theorem setDE_terminate (w : Word) (s : State) : (setDE w s).terminate = s.terminate := rfl
@[simp] theorem setDE_params (w : Word) (s : State) : (setDE w s).params = s.params := rfl

/-! ### setHL -/

@[simp] theorem setHL_a (w : Word) (s : State) : (setHL w s).a = s.a := rfl
@[simp] theorem setHL_b (w : Word) (s : State) : (setHL w s).b = s.b := rfl
@[simp] theorem setHL_c (w : Word) (s : State) : (setHL w s).c = s.c := rfl
@[simp] theorem setHL_d (w : Word) (s : State) : (setHL w s).d = s.d := rfl
@[simp] theorem setHL_e (w : Word) (s : State) : (setHL w s).e = s.e := rfl
@[simp] theorem setHL_h (w : Word) (s : State) : (setHL w s).h = hi8 w := rfl
@[simp] theorem setHL_l (w : Word) (s : State) : (setHL w s).l = lo8 w := rfl
@[simp] theorem setHL_f (w : Word) (s : State) : (setHL w s).f = s.f := rfl
@[simp] theorem setHL_sp (w : Word) (s : State) : (setHL w s).sp = s.sp := rfl
@[simp] theorem setHL_pc (w : Word) (s : State) : (setHL w s).pc = s.pc := rfl
@[simp] theorem setHL_ime (w : Word) (s : State) : (setHL w s).ime = s.ime := rfl
@[simp] theorem setHL_imeDelay (w : Word) (s : State) : (setHL w s).imeDelay = s.imeDelay := rfl
@[simp] theorem setHL_halted (w : Word) (s : State) : (setHL w s).halted = s.halted := rfl
@[simp] theorem setHL_instrCount (w : Word) (s : State) : (setHL w s).instrCount = s.instrCount := rfl
@[simp] theorem setHL_timerEnabled (w : Word) (s : State) : (setHL w s).timerEnabled = s.timerEnabled := rfl
@[simp] theorem setHL_timaRate (w : Word) (s : State) : (setHL w s).timaRate = s.timaRate := rfl
@[simp] theorem setHL_doubleSpeed (w : Word) (s : State) : (setHL w s).doubleSpeed = s.doubleSpeed := rfl
@[simp] theorem setHL_div (w : Word) (s : State) : (setHL w s).div = s.div := rfl
@[simp] theorem setHL_tima (w : Word) (s : State) : (setHL w s).tima = s.tima := rfl
@[simp] theorem setHL_tma (w : Word) (s : State) : (setHL w s).tma = s.tma := rfl
@[simp] theorem setHL_tac (w : Word) (s : State) : (setHL w s).tac = s.tac := rfl
@[simp] theorem setHL_ifReg (w : Word) (s : State) : (setHL w s).ifReg = s.ifReg := rfl
@[simp] theorem setHL_lcdc (w : Word) (s : State) : (setHL w s).lcdc = s.lcdc := rfl
@[simp] theorem setHL_stat (w : Word) (s : State) : (setHL w s).stat = s.stat := rfl
@[simp] theorem setHL_ly (w : Word) (s : State) : (setHL w s).ly = s.ly := rfl
@[simp] theorem setHL_lyc (w : Word) (s : State) : (setHL w s).lyc = s.lyc := rfl
@[simp] theorem setHL_ieReg (w : Word) (s : State) : (setHL w s).ieReg = s.ieReg := rfl
@[simp] theorem setHL_io (w : Word) (s : State) : (setHL w s).io = s.io := rfl
@[simp] theorem setHL_wram (w : Word) (s : State) : (setHL w s).wram = s.wram := rfl
@[simp] theorem setHL_wramBank (w : Word) (s : State) : (setHL w s).wramBank = s.wramBank := rfl
@[simp] theorem setHL_oam (w : Word) (s : State) : (setHL w s).oam = s.oam := rfl
@[simp] theorem setHL_rom (w : Word) (s : State) : (setHL w s).rom = s.rom := rfl
@[simp] theorem setHL_cram (w : Word) (s : State) : (setHL w s).cram = s.cram := rfl
@[simp] theorem setHL_vram (w : Word) (s : State) : (setHL w s).vram = s.vram := rfl
@[simp] theorem setHL_cartState (w : Word) (s : State) : (setHL w s).cartState = s.cartState := rfl
@[simp] theorem setHL_dispState (w : Word) (s : State) : (setHL w s).dispState = s.dispState := rfl
@[simp] theorem setHL_ioInput (w : Word) (s : State) : (setHL w s).ioInput = s.ioInput := rfl
@[simp] theorem setHL_events (w : Word) (s : State) : (setHL w s).events = s.events := rfl
@[simp] theorem setHL_frameComposed (w : Word) (s : State) : (setHL w s).frameComposed = s.frameComposed := rfl
@[simp] theorem setHL_frameHold (w : Word) (s : State) : (setHL w s).frameHold = s.frameHold := rfl
@[simp] theorem setHL_terminate (w : Word) (s : State) : (setHL w s).terminate = s.terminate := rfl
@[simp] theorem setHL_params (w : Word) (s : State) : (setHL w s).params = s.params := rfl

/-! ### setSP -/

@[simp] theorem setSP_a (w : Word) (s : State) : (setSP w s).a = s.a := rfl
@[simp] theorem setSP_b (w : Word) (s : State) : (setSP w s).b = s.b := rfl
@[simp] theorem setSP_c (w : Word) (s : State) : (setSP w s).c = s.c := rfl
@[simp] theorem setSP_d (w : Word) (s : State) : (setSP w s).d = s.d := rfl
@[simp] theorem setSP_e (w : Word) (s : State) : (setSP w s).e = s.e := rfl
@[simp] theorem setSP_h (w : Word) (s : State) : (setSP w s).h = s.h := rfl
@[simp] theorem setSP_l (w : Word) (s : State) : (setSP w s).l = s.l := rfl
@[simp] theorem setSP_f (w : Word) (s : State) : (setSP w s).f = s.f := rfl
@[simp] theorem setSP_sp (w : Word) (s : State) : (setSP w s).sp = w := rfl
@[simp] theorem setSP_pc (w : Word) (s : State) : (setSP w s).pc = s.pc := rfl
@[simp] theorem setSP_ime (w : Word) (s : State) : (setSP w s).ime = s.ime := rfl
@[simp] theorem setSP_imeDelay (w : Word) (s : State) : (setSP w s).imeDelay = s.imeDelay := rfl
@[simp] theorem setSP_halted (w : Word) (s : State) : (setSP w s).halted = s.halted := rfl
@[simp] theorem setSP_instrCount (w : Word) (s : State) : (setSP w s).instrCount = s.instrCount := rfl
@[simp] theorem setSP_timerEnabled (w : Word) (s : State) : (setSP w s).timerEnabled = s.timerEnabled := rfl
@[simp] theorem setSP_timaRate (w : Word) (s : State) : (setSP w s).timaRate = s.timaRate := rfl
@[simp] theorem setSP_doubleSpeed (w : Word) (s : State) : (setSP w s).doubleSpeed = s.doubleSpeed := rfl
@[simp] theorem setSP_div (w : Word) (s : State) : (setSP w s).div = s.div := rfl
@[simp] theorem setSP_tima (w : Word) (s : State) : (setSP w s).tima = s.tima := rfl
@[simp] theorem setSP_tma (w : Word) (s : State) : (setSP w s).tma = s.tma := rfl
@[simp] theorem setSP_tac (w : Word) (s : State) : (setSP w s).tac = s.tac := rfl
@[simp] theorem setSP_ifReg (w : Word) (s : State) : (setSP w s).ifReg = s.ifReg := rfl
@[simp] theorem setSP_lcdc (w : Word) (s : State) : (setSP w s).lcdc = s.lcdc := rfl
@[simp] theorem setSP_stat (w : Word) (s : State) : (setSP w s).stat = s.stat := rfl
@[simp] theorem setSP_ly (w : Word) (s : State) : (setSP w s).ly = s.ly := rfl
@[simp] theorem setSP_lyc (w : Word) (s : State) : (setSP w s).lyc = s.lyc := rfl
@[simp] theorem setSP_ieReg (w : Word) (s : State) : (setSP w s).ieReg = s.ieReg := rfl
@[simp] theorem setSP_io (w : Word) (s : State) : (setSP w s).io = s.io := rfl
@[simp] theorem setSP_wram (w : Word) (s : State) : (setSP w s).wram = s.wram := rfl
@[simp] theorem setSP_wramBank (w : Word) (s : State) : (setSP w s).wramBank = s.wramBank := rfl
@[simp] theorem setSP_oam (w : Word) (s : State) : (setSP w s).oam = s.oam := rfl
@[simp] theorem setSP_rom (w : Word) (s : State) : (setSP w s).rom = s.rom := rfl
@[simp] theorem setSP_cram (w : Word) (s : State) : (setSP w s).cram = s.cram := rfl
@[simp] theorem setSP_vram (w : Word) (s : State) : (setSP w s).vram = s.vram := rfl
@[simp] theorem setSP_cartState (w : Word) (s : State) : (setSP w s).cartState = s.cartState := rfl
@[simp] theorem setSP_dispState (w : Word) (s : State) : (setSP w s).dispState = s.dispState := rfl
@[simp] theorem setSP_ioInput (w : Word) (s : State) : (setSP w s).ioInput = s.ioInput := rfl
@[simp] theorem setSP_events (w : Word) (s : State) : (setSP w s).events = s.events := rfl
@[simp] theorem setSP_frameComposed (w : Word) (s : State) : (setSP w s).frameComposed = s.frameComposed := rfl
@[simp] theorem setSP_frameHold (w : Word) (s : State) : (setSP w s).frameHold = s.frameHold := rfl
@[simp] theorem setSP_terminate (w : Word) (s : State) : (setSP w s).terminate = s.terminate := rfl
@[simp] theorem setSP_params (w : Word) (s : State) : (setSP w s).params = s.params := rfl

/-! ### setAF -/

@[simp] theorem setAF_a (w : Word) (s : State) : (setAF w s).a = hi8 w := rfl
@[simp] theorem setAF_b (w : Word) (s : State) : (setAF w s).b = s.b := rfl
@[simp] theorem setAF_c (w : Word) (s : State) : (setAF w s).c = s.c := rfl
@[simp] theorem setAF_d (w : Word) (s : State) : (setAF w s).d = s.d := rfl
@[simp] theorem setAF_e (w : Word) (s : State) : (setAF w s).e = s.e := rfl
@[simp] theorem setAF_h (w : Word) (s : State) : (setAF w s).h = s.h := rfl
@[simp] theorem setAF_l (w : Word) (s : State) : (setAF w s).l = s.l := rfl
@[simp] theorem setAF_f (w : Word) (s : State) : (setAF w s).f = lo8 w &&& 0xF0 := rfl
@[simp] theorem setAF_sp (w : Word) (s : State) : (setAF w s).sp = s.sp := rfl
@[simp] theorem setAF_pc (w : Word) (s : State) : (setAF w s).pc = s.pc := rfl
@[simp] theorem setAF_ime (w : Word) (s : State) : (setAF w s).ime = s.ime := rfl
@[simp] theorem setAF_imeDelay (w : Word) (s : State) : (setAF w s).imeDelay = s.imeDelay := rfl
@[simp] theorem setAF_halted (w : Word) (s : State) : (setAF w s).halted = s.halted := rfl
@[simp] theorem setAF_instrCount (w : Word) (s : State) : (setAF w s).instrCount = s.instrCount := rfl
@[simp] theorem setAF_timerEnabled (w : Word) (s : State) : (setAF w s).timerEnabled = s.timerEnabled := rfl
@[simp] theorem setAF_timaRate (w : Word) (s : State) : (setAF w s).timaRate = s.timaRate := rfl
@[simp] theorem setAF_doubleSpeed (w : Word) (s : State) : (setAF w s).doubleSpeed = s.doubleSpeed := rfl
@[simp] theorem setAF_div (w : Word) (s : State) : (setAF w s).div = s.div := rfl
@[simp] theorem setAF_tima (w : Word) (s : State) : (setAF w s).tima = s.tima := rfl
@[simp] theorem setAF_tma (w : Word) (s : State) : (setAF w s).tma = s.tma := rfl
@[simp] theorem setAF_tac (w : Word) (s : State) : (setAF w s).tac = s.tac := rfl
@[simp] theorem setAF_ifReg (w : Word) (s : State) : (setAF w s).ifReg = s.ifReg := rfl
@[simp] theorem setAF_lcdc (w : Word) (s : State) : (setAF w s).lcdc = s.lcdc := rfl
@[simp] theorem setAF_stat (w : Word) (s : State) : (setAF w s).stat = s.stat := rfl
@[simp] theorem setAF_ly (w : Word) (s : State) : (setAF w s).ly = s.ly := rfl
@[simp] theorem setAF_lyc (w : Word) (s : State) : (setAF w s).lyc = s.lyc := rfl
@[simp] theorem setAF_ieReg (w : Word) (s : State) : (setAF w s).ieReg = s.ieReg := rfl
@[simp] theorem setAF_io (w : Word) (s : State) : (setAF w s).io = s.io := rfl
@[simp] theorem setAF_wram (w : Word) (s : State) : (setAF w s).wram = s.wram := rfl
@[simp] theorem setAF_wramBank (w : Word) (s : State) : (setAF w s).wramBank = s.wramBank := rfl
@[simp] theorem setAF_oam (w : Word) (s : State) : (setAF w s).oam = s.oam := rfl
@[simp] theorem setAF_rom (w : Word) (s : State) : (setAF w s).rom = s.rom := rfl
@[simp] theorem setAF_cram (w : Word) (s : State) : (setAF w s).cram = s.cram := rfl
@[simp] theorem setAF_vram (w : Word) (s : State) : (setAF w s).vram = s.vram := rfl
@[simp] theorem setAF_cartState (w : Word) (s : State) : (setAF w s).cartState = s.cartState := rfl
@[simp] theorem setAF_dispState (w : Word) (s : State) : (setAF w s).dispState = s.dispState := rfl
@[simp] theorem setAF_ioInput (w : Word) (s : State) : (setAF w s).ioInput = s.ioInput := rfl
@[simp] theorem setAF_events (w : Word) (s : State) : (setAF w s).events = s.events := rfl
@[simp] theorem setAF_frameComposed (w : Word) (s : State) : (setAF w s).frameComposed = s.frameComposed := rfl
@[simp] theorem setAF_frameHold (w : Word) (s : State) : (setAF w s).frameHold = s.frameHold := rfl
@[simp] theorem setAF_terminate (w : Word) (s : State) : (setAF w s).terminate = s.terminate := rfl
@[simp] theorem setAF_params (w : Word) (s : State) : (setAF w s).params = s.params := rfl

/-! ### setPC -/

@[simp] theorem setPC_a (w : Word) (s : State) : (setPC w s).a = s.a := rfl
@[simp] theorem setPC_b (w : Word) (s : State) : (setPC w s).b = s.b := rfl
@[simp] theorem setPC_c (w : Word) (s : State) : (setPC w s).c = s.c := rfl
@[simp] theorem setPC_d (w : Word) (s : State) : (setPC w s).d = s.d := rfl
@[simp] theorem setPC_e (w : Word) (s : State) : (setPC w s).e = s.e := rfl
@[simp] theorem setPC_h (w : Word) (s : State) : (setPC w s).h = s.h := rfl
@[simp] theorem setPC_l (w : Word) (s : State) : (setPC w s).l = s.l := rfl
@[simp] theorem setPC_f (w : Word) (s : State) : (setPC w s).f = s.f := rfl
@[simp] theorem setPC_sp (w : Word) (s : State) : (setPC w s).sp = s.sp := rfl
@[simp] theorem setPC_pc (w : Word) (s : State) : (setPC w s).pc = w := rfl
@[simp] theorem setPC_ime (w : Word) (s : State) : (setPC w s).ime = s.ime := rfl
@[simp] theorem setPC_imeDelay (w : Word) (s : State) : (setPC w s).imeDelay = s.imeDelay := rfl
@[simp] theorem setPC_halted (w : Word) (s : State) : (setPC w s).halted = s.halted := rfl
@[simp] theorem setPC_instrCount (w : Word) (s : State) : (setPC w s).instrCount = s.instrCount := rfl
@[simp] theorem setPC_timerEnabled (w : Word) (s : State) : (setPC w s).timerEnabled = s.timerEnabled := rfl
@[simp] theorem setPC_timaRate (w : Word) (s : State) : (setPC w s).timaRate = s.timaRate := rfl
@[simp] theorem setPC_doubleSpeed (w : Word) (s : State) : (setPC w s).doubleSpeed = s.doubleSpeed := rfl
@[simp] theorem setPC_div (w : Word) (s : State) : (setPC w s).div = s.div := rfl
@[simp] theorem setPC_tima (w : Word) (s : State) : (setPC w s).tima = s.tima := rfl
@[simp] theorem setPC_tma (w : Word) (s : State) : (setPC w s).tma = s.tma := rfl
@[simp] theorem setPC_tac (w : Word) (s : State) : (setPC w s).tac = s.tac := rfl
@[simp] theorem setPC_ifReg (w : Word) (s : State) : (setPC w s).ifReg = s.ifReg := rfl
@[simp] theorem setPC_lcdc (w : Word) (s : State) : (setPC w s).lcdc = s.lcdc := rfl
@[simp] theorem setPC_stat (w : Word) (s : State) : (setPC w s).stat = s.stat := rfl
@[simp] theorem setPC_ly (w : Word) (s : State) : (setPC w s).ly = s.ly := rfl
@[simp] theorem setPC_lyc (w : Word) (s : State) : (setPC w s).lyc = s.lyc := rfl
@[simp] theorem setPC_ieReg (w : Word) (s : State) : (setPC w s).ieReg = s.ieReg := rfl
@[simp] theorem setPC_io (w : Word) (s : State) : (setPC w s).io = s.io := rfl
@[simp] theorem setPC_wram (w : Word) (s : State) : (setPC w s).wram = s.wram := rfl
@[simp] theorem setPC_wramBank (w : Word) (s : State) : (setPC w s).wramBank = s.wramBank := rfl
@[simp] theorem setPC_oam (w : Word) (s : State) : (setPC w s).oam = s.oam := rfl
@[simp] theorem setPC_rom (w : Word) (s : State) : (setPC w s).rom = s.rom := rfl
@[simp] theorem setPC_cram (w : Word) (s : State) : (setPC w s).cram = s.cram := rfl
@[simp] theorem setPC_vram (w : Word) (s : State) : (setPC w s).vram = s.vram := rfl
@[simp] theorem setPC_cartState (w : Word) (s : State) : (setPC w s).cartState = s.cartState := rfl
@[simp] theorem setPC_dispState (w : Word) (s : State) : (setPC w s).dispState = s.dispState := rfl
@[simp] theorem setPC_ioInput (w : Word) (s : State) : (setPC w s).ioInput = s.ioInput := rfl
@[simp] theorem setPC_events (w : Word) (s : State) : (setPC w s).events = s.events := rfl
@[simp] theorem setPC_frameComposed (w : Word) (s : State) : (setPC w s).frameComposed = s.frameComposed := rfl
@[simp] theorem setPC_frameHold (w : Word) (s : State) : (setPC w s).frameHold = s.frameHold := rfl
@[simp] theorem setPC_terminate (w : Word) (s : State) : (setPC w s).terminate = s.terminate := rfl
@[simp] theorem setPC_params (w : Word) (s : State) : (setPC w s).params = s.params := rfl

/-! ### advance -/

@[simp] theorem advance_a (n : Nat) (s : State) : (advance n s).a = s.a := rfl
@[simp] theorem advance_b (n : Nat) (s : State) : (advance n s).b = s.b := rfl
@[simp] theorem advance_c (n : Nat) (s : State) : (advance n s).c = s.c := rfl
@[simp] theorem advance_d (n : Nat) (s : State) : (advance n s).d = s.d := rfl
@[simp] theorem advance_e (n : Nat) (s : State) : (advance n s).e = s.e := rfl
@[simp] theorem advance_h (n : Nat) (s : State) : (advance n s).h = s.h := rfl
@[simp] theorem advance_l (n : Nat) (s : State) : (advance n s).l = s.l := rfl
@[simp] theorem advance_f (n : Nat) (s : State) : (advance n s).f = s.f := rfl
@[simp] theorem advance_sp (n : Nat) (s : State) : (advance n s).sp = s.sp := rfl
@[simp] theorem advance_pc (n : Nat) (s : State) : (advance n s).pc = s.pc + BitVec.ofNat 16 n := rfl
@[simp] theorem advance_ime (n : Nat) (s : State) : (advance n s).ime = s.ime := rfl
@[simp] theorem advance_imeDelay (n : Nat) (s : State) : (advance n s).imeDelay = s.imeDelay := rfl
@[simp] theorem advance_halted (n : Nat) (s : State) : (advance n s).halted = s.halted := rfl
@[simp] theorem advance_instrCount (n : Nat) (s : State) : (advance n s).instrCount = s.instrCount := rfl
@[simp] theorem advance_timerEnabled (n : Nat) (s : State) : (advance n s).timerEnabled = s.timerEnabled := rfl
@[simp] theorem advance_timaRate (n : Nat) (s : State) : (advance n s).timaRate = s.timaRate := rfl
@[simp] theorem advance_doubleSpeed (n : Nat) (s : State) : (advance n s).doubleSpeed = s.doubleSpeed := rfl
@[simp] theorem advance_div (n : Nat) (s : State) : (advance n s).div = s.div := rfl
@[simp] theorem advance_tima (n : Nat) (s : State) : (advance n s).tima = s.tima := rfl
@[simp] theorem advance_tma (n : Nat) (s : State) : (advance n s).tma = s.tma := rfl
@[simp] theorem advance_tac (n : Nat) (s : State) : (advance n s).tac = s.tac := rfl
@[simp] theorem advance_ifReg (n : Nat) (s : State) : (advance n s).ifReg = s.ifReg := rfl
@[simp] theorem advance_lcdc (n : Nat) (s : State) : (advance n s).lcdc = s.lcdc := rfl
@[simp] theorem advance_stat (n : Nat) (s : State) : (advance n s).stat = s.stat := rfl
@[simp] theorem advance_ly (n : Nat) (s : State) : (advance n s).ly = s.ly := rfl
@[simp] theorem advance_lyc (n : Nat) (s : State) : (advance n s).lyc = s.lyc := rfl
@[simp] theorem advance_ieReg (n : Nat) (s : State) : (advance n s).ieReg = s.ieReg := rfl
@[simp] theorem advance_io (n : Nat) (s : State) : (advance n s).io = s.io := rfl
@[simp] theorem advance_wram (n : Nat) (s : State) : (advance n s).wram = s.wram := rfl
@[simp] theorem advance_wramBank (n : Nat) (s : State) : (advance n s).wramBank = s.wramBank := rfl
@[simp] theorem advance_oam (n : Nat) (s : State) : (advance n s).oam = s.oam := rfl
@[simp] theorem advance_rom (n : Nat) (s : State) : (advance n s).rom = s.rom := rfl
@[simp] theorem advance_cram (n : Nat) (s : State) : (advance n s).cram = s.cram := rfl
@[simp] theorem advance_vram (n : Nat) (s : State) : (advance n s).vram = s.vram := rfl
@[simp] theorem advance_cartState (n : Nat) (s : State) : (advance n s).cartState = s.cartState := rfl
@[simp] theorem advance_dispState (n : Nat) (s : State) : (advance n s).dispState = s.dispState := rfl
@[simp] theorem advance_ioInput (n : Nat) (s : State) : (advance n s).ioInput = s.ioInput := rfl
@[simp] theorem advance_events (n : Nat) (s : State) : (advance n s).events = s.events := rfl
@[simp] theorem advance_frameComposed (n : Nat) (s : State) : (advance n s).frameComposed = s.frameComposed := rfl
@[simp] theorem advance_frameHold (n : Nat) (s : State) : (advance n s).frameHold = s.frameHold := rfl
@[simp] theorem advance_terminate (n : Nat) (s : State) : (advance n s).terminate = s.terminate := rfl
@[simp] theorem advance_params (n : Nat) (s : State) : (advance n s).params = s.params := rfl

/-! ### emit -/

@[simp] theorem emit_a (ev : Event) (s : State) : (emit ev s).a = s.a := rfl
@[simp] theorem emit_b (ev : Event) (s : State) : (emit ev s).b = s.b := rfl
@[simp] theorem emit_c (ev : Event) (s : State) : (emit ev s).c = s.c := rfl
@[simp] theorem emit_d (ev : Event) (s : State) : (emit ev s).d = s.d := rfl
@[simp] theorem emit_e (ev : Event) (s : State) : (emit ev s).e = s.e := rfl
@[simp] theorem emit_h (ev : Event) (s : State) : (emit ev s).h = s.h := rfl
@[simp] theorem emit_l (ev : Event) (s : State) : (emit ev s).l = s.l := rfl
@[simp] theorem emit_f (ev : Event) (s : State) : (emit ev s).f = s.f := rfl
@[simp] theorem emit_sp (ev : Event) (s : State) : (emit ev s).sp = s.sp := rfl
@[simp] theorem emit_pc (ev : Event) (s : State) : (emit ev s).pc = s.pc := rfl
@[simp] theorem emit_ime (ev : Event) (s : State) : (emit ev s).ime = s.ime := rfl
@[simp] theorem emit_imeDelay (ev : Event) (s : State) : (emit ev s).imeDelay = s.imeDelay := rfl
@[simp] theorem emit_halted (ev : Event) (s : State) : (emit ev s).halted = s.halted := rfl
@[simp] theorem emit_instrCount (ev : Event) (s : State) : (emit ev s).instrCount = s.instrCount := rfl
@[simp] theorem emit_timerEnabled (ev : Event) (s : State) : (emit ev s).timerEnabled = s.timerEnabled := rfl
@[simp] theorem emit_timaRate (ev : Event) (s : State) : (emit ev s).timaRate = s.timaRate := rfl
@[simp] theorem emit_doubleSpeed (ev : Event) (s : State) : (emit ev s).doubleSpeed = s.doubleSpeed := rfl
@[simp] theorem emit_div (ev : Event) (s : State) : (emit ev s).div = s.div := rfl
@[simp] theorem emit_tima (ev : Event) (s : State) : (emit ev s).tima = s.tima := rfl
@[simp] theorem emit_tma (ev : Event) (s : State) : (emit ev s).tma = s.tma := rfl
@[simp] theorem emit_tac (ev : Event) (s : State) : (emit ev s).tac = s.tac := rfl
@[simp] theorem emit_ifReg (ev : Event) (s : State) : (emit ev s).ifReg = s.ifReg := rfl
@[simp] theorem emit_lcdc (ev : Event) (s : State) : (emit ev s).lcdc = s.lcdc := rfl
@[simp] theorem emit_stat (ev : Event) (s : State) : (emit ev s).stat = s.stat := rfl
@[simp] theorem emit_ly (ev : Event) (s : State) : (emit ev s).ly = s.ly := rfl
@[simp] theorem emit_lyc (ev : Event) (s : State) : (emit ev s).lyc = s.lyc := rfl
@[simp] theorem emit_ieReg (ev : Event) (s : State) : (emit ev s).ieReg = s.ieReg := rfl
@[simp] theorem emit_io (ev : Event) (s : State) : (emit ev s).io = s.io := rfl
@[simp] theorem emit_wram (ev : Event) (s : State) : (emit ev s).wram = s.wram := rfl
@[simp] theorem emit_wramBank (ev : Event) (s : State) : (emit ev s).wramBank = s.wramBank := rfl
@[simp] theorem emit_oam (ev : Event) (s : State) : (emit ev s).oam = s.oam := rfl
@[simp] theorem emit_rom (ev : Event) (s : State) : (emit ev s).rom = s.rom := rfl
@[simp] theorem emit_cram (ev : Event) (s : State) : (emit ev s).cram = s.cram := rfl
@[simp] theorem emit_vram (ev : Event) (s : State) : (emit ev s).vram = s.vram := rfl
@[simp] theorem emit_cartState (ev : Event) (s : State) : (emit ev s).cartState = s.cartState := rfl
@[simp] theorem emit_dispState (ev : Event) (s : State) : (emit ev s).dispState = s.dispState := rfl
@[simp] theorem emit_ioInput (ev : Event) (s : State) : (emit ev s).ioInput = s.ioInput := rfl
@[simp] theorem emit_events (ev : Event) (s : State) : (emit ev s).events = s.events ++ [ev] := rfl
@[simp] theorem emit_frameComposed (ev : Event) (s : State) : (emit ev s).frameComposed = s.frameComposed := rfl
@[simp] theorem emit_frameHold (ev : Event) (s : State) : (emit ev s).frameHold = s.frameHold := rfl
@[simp] theorem emit_terminate (ev : Event) (s : State) : (emit ev s).terminate = s.terminate := rfl
@[simp] theorem emit_params (ev : Event) (s : State) : (emit ev s).params = s.params := rfl

/-! ### setFlags -/

@[simp] theorem setFlags_a (z n h c : Option Bool) (s : State) : (setFlags z n h c s).a = s.a := rfl
@[simp] theorem setFlags_b (z n h c : Option Bool) (s : State) : (setFlags z n h c s).b = s.b := rfl
@[simp] theorem setFlags_c (z n h c : Option Bool) (s : State) : (setFlags z n h c s).c = s.c := rfl
@[simp] theorem setFlags_d (z n h c : Option Bool) (s : State) : (setFlags z n h c s).d = s.d := rfl
@[simp] theorem setFlags_e (z n h c : Option Bool) (s : State) : (setFlags z n h c s).e = s.e := rfl
@[simp] theorem setFlags_h (z n h c : Option Bool) (s : State) : (setFlags z n h c s).h = s.h := rfl
@[simp] theorem setFlags_l (z n h c : Option Bool) (s : State) : (setFlags z n h c s).l = s.l := rfl
@[simp] theorem setFlags_f (z n h c : Option Bool) (s : State) : (setFlags z n h c s).f = packFlags (z.getD s.zf) (n.getD s.nf) (h.getD s.hf) (c.getD s.cf) := rfl
@[simp] theorem setFlags_sp (z n h c : Option Bool) (s : State) : (setFlags z n h c s).sp = s.sp := rfl
@[simp] theorem setFlags_pc (z n h c : Option Bool) (s : State) : (setFlags z n h c s).pc = s.pc := rfl
@[simp] theorem setFlags_ime (z n h c : Option Bool) (s : State) : (setFlags z n h c s).ime = s.ime := rfl
@[simp] theorem setFlags_imeDelay (z n h c : Option Bool) (s : State) : (setFlags z n h c s).imeDelay = s.imeDelay := rfl
@[simp] theorem setFlags_halted (z n h c : Option Bool) (s : State) : (setFlags z n h c s).halted = s.halted := rfl
@[simp] theorem setFlags_instrCount (z n h c : Option Bool) (s : State) : (setFlags z n h c s).instrCount = s.instrCount := rfl
@[simp] theorem setFlags_timerEnabled (z n h c : Option Bool) (s : State) : (setFlags z n h c s).timerEnabled = s.timerEnabled := rfl
@[simp] theorem setFlags_timaRate (z n h c : Option Bool) (s : State) : (setFlags z n h c s).timaRate = s.timaRate := rfl
@[simp] theorem setFlags_doubleSpeed (z n h c : Option Bool) (s : State) : (setFlags z n h c s).doubleSpeed = s.doubleSpeed := rfl
@[simp] theorem setFlags_div (z n h c : Option Bool) (s : State) : (setFlags z n h c s).div = s.div := rfl
@[simp] theorem setFlags_tima (z n h c : Option Bool) (s : State) : (setFlags z n h c s).tima = s.tima := rfl
@[simp] theorem setFlags_tma (z n h c : Option Bool) (s : State) : (setFlags z n h c s).tma = s.tma := rfl
@[simp] theorem setFlags_tac (z n h c : Option Bool) (s : State) : (setFlags z n h c s).tac = s.tac := rfl
@[simp] theorem setFlags_ifReg (z n h c : Option Bool) (s : State) : (setFlags z n h c s).ifReg = s.ifReg := rfl
@[simp] theorem setFlags_lcdc (z n h c : Option Bool) (s : State) : (setFlags z n h c s).lcdc = s.lcdc := rfl
@[simp] theorem setFlags_stat (z n h c : Option Bool) (s : State) : (setFlags z n h c s).stat = s.stat := rfl
@[simp] theorem setFlags_ly (z n h c : Option Bool) (s : State) : (setFlags z n h c s).ly = s.ly := rfl
@[simp] theorem setFlags_lyc (z n h c : Option Bool) (s : State) : (setFlags z n h c s).lyc = s.lyc := rfl
@[simp] theorem setFlags_ieReg (z n h c : Option Bool) (s : State) : (setFlags z n h c s).ieReg = s.ieReg := rfl
@[simp] theorem setFlags_io (z n h c : Option Bool) (s : State) : (setFlags z n h c s).io = s.io := rfl
@[simp] theorem setFlags_wram (z n h c : Option Bool) (s : State) : (setFlags z n h c s).wram = s.wram := rfl
@[simp] theorem setFlags_wramBank (z n h c : Option Bool) (s : State) : (setFlags z n h c s).wramBank = s.wramBank := rfl
@[simp] theorem setFlags_oam (z n h c : Option Bool) (s : State) : (setFlags z n h c s).oam = s.oam := rfl
@[simp] theorem setFlags_rom (z n h c : Option Bool) (s : State) : (setFlags z n h c s).rom = s.rom := rfl
@[simp] theorem setFlags_cram (z n h c : Option Bool) (s : State) : (setFlags z n h c s).cram = s.cram := rfl
@[simp] theorem setFlags_vram (z n h c : Option Bool) (s : State) : (setFlags z n h c s).vram = s.vram := rfl
@[simp] theorem setFlags_cartState (z n h c : Option Bool) (s : State) : (setFlags z n h c s).cartState = s.cartState := rfl
@[simp] theorem setFlags_dispState (z n h c : Option Bool) (s : State) : (setFlags z n h c s).dispState = s.dispState := rfl
@[simp] theorem setFlags_ioInput (z n h c : Option Bool) (s : State) : (setFlags z n h c s).ioInput = s.ioInput := rfl
@[simp] theorem setFlags_events (z n h c : Option Bool) (s : State) : (setFlags z n h c s).events = s.events := rfl
@[simp] theorem setFlags_frameComposed (z n h c : Option Bool) (s : State) : (setFlags z n h c s).frameComposed = s.frameComposed := rfl
@[simp] theorem setFlags_frameHold (z n h c : Option Bool) (s : State) : (setFlags z n h c s).frameHold = s.frameHold := rfl
@[simp] theorem setFlags_terminate (z n h c : Option Bool) (s : State) : (setFlags z n h c s).terminate = s.terminate := rfl
@[simp] theorem setFlags_params (z n h c : Option Bool) (s : State) : (setFlags z n h c s).params = s.params := rfl

/-! ### triggerInterrupt -/

@[simp] theorem triggerInterrupt_a (k : IntClass) (s : State) : (triggerInterrupt k s).a = s.a := rfl
@[simp] theorem triggerInterrupt_b (k : IntClass) (s : State) : (triggerInterrupt k s).b = s.b := rfl
@[simp] theorem triggerInterrupt_c (k : IntClass) (s : State) : (triggerInterrupt k s).c = s.c := rfl
@[simp] theorem triggerInterrupt_d (k : IntClass) (s : State) : (triggerInterrupt k s).d = s.d := rfl
@[simp] theorem triggerInterrupt_e (k : IntClass) (s : State) : (triggerInterrupt k s).e = s.e := rfl
@[simp] theorem triggerInterrupt_h (k : IntClass) (s : State) : (triggerInterrupt k s).h = s.h := rfl
@[simp] theorem triggerInterrupt_l (k : IntClass) (s : State) : (triggerInterrupt k s).l = s.l := rfl
@[simp] theorem triggerInterrupt_f (k : IntClass) (s : State) : (triggerInterrupt k s).f = s.f := rfl
@[simp] theorem triggerInterrupt_sp (k : IntClass) (s : State) : (triggerInterrupt k s).sp = s.sp := rfl
@[simp] theorem triggerInterrupt_pc (k : IntClass) (s : State) : (triggerInterrupt k s).pc = s.pc := rfl
@[simp] theorem triggerInterrupt_ime (k : IntClass) (s : State) : (triggerInterrupt k s).ime = s.ime := rfl
@[simp] theorem triggerInterrupt_imeDelay (k : IntClass) (s : State) : (triggerInterrupt k s).imeDelay = s.imeDelay := rfl
@[simp] theorem triggerInterrupt_halted (k : IntClass) (s : State) : (triggerInterrupt k s).halted = s.halted := rfl
@[simp] theorem triggerInterrupt_instrCount (k : IntClass) (s : State) : (triggerInterrupt k s).instrCount = s.instrCount := rfl
@[simp] theorem triggerInterrupt_timerEnabled (k : IntClass) (s : State) : (triggerInterrupt k s).timerEnabled = s.timerEnabled := rfl
@[simp] theorem triggerInterrupt_timaRate (k : IntClass) (s : State) : (triggerInterrupt k s).timaRate = s.timaRate := rfl
@[simp] theorem triggerInterrupt_doubleSpeed (k : IntClass) (s : State) : (triggerInterrupt k s).doubleSpeed = s.doubleSpeed := rfl
@[simp] theorem triggerInterrupt_div (k : IntClass) (s : State) : (triggerInterrupt k s).div = s.div := rfl
@[simp] theorem triggerInterrupt_tima (k : IntClass) (s : State) : (triggerInterrupt k s).tima = s.tima := rfl
@[simp] theorem triggerInterrupt_tma (k : IntClass) (s : State) : (triggerInterrupt k s).tma = s.tma := rfl
@[simp] theorem triggerInterrupt_tac (k : IntClass) (s : State) : (triggerInterrupt k s).tac = s.tac := rfl
@[simp] theorem triggerInterrupt_ifReg (k : IntClass) (s : State) : (triggerInterrupt k s).ifReg = s.ifReg ||| k.mask := rfl
@[simp] theorem triggerInterrupt_lcdc (k : IntClass) (s : State) : (triggerInterrupt k s).lcdc = s.lcdc := rfl
@[simp] theorem triggerInterrupt_stat (k : IntClass) (s : State) : (triggerInterrupt k s).stat = s.stat := rfl
@[simp] theorem triggerInterrupt_ly (k : IntClass) (s : State) : (triggerInterrupt k s).ly = s.ly := rfl
@[simp] theorem triggerInterrupt_lyc (k : IntClass) (s : State) : (triggerInterrupt k s).lyc = s.lyc := rfl
@[simp] theorem triggerInterrupt_ieReg (k : IntClass) (s : State) : (triggerInterrupt k s).ieReg = s.ieReg := rfl
@[simp] theorem triggerInterrupt_io (k : IntClass) (s : State) : (triggerInterrupt k s).io = s.io := rfl
@[simp] theorem triggerInterrupt_wram (k : IntClass) (s : State) : (triggerInterrupt k s).wram = s.wram := rfl
@[simp] theorem triggerInterrupt_wramBank (k : IntClass) (s : State) : (triggerInterrupt k s).wramBank = s.wramBank := rfl
@[simp] theorem triggerInterrupt_oam (k : IntClass) (s : State) : (triggerInterrupt k s).oam = s.oam := rfl
@[simp] theorem triggerInterrupt_rom (k : IntClass) (s : State) : (triggerInterrupt k s).rom = s.rom := rfl
@[simp] theorem triggerInterrupt_cram (k : IntClass) (s : State) : (triggerInterrupt k s).cram = s.cram := rfl
@[simp] theorem triggerInterrupt_vram (k : IntClass) (s : State) : (triggerInterrupt k s).vram = s.vram := rfl
@[simp] theorem triggerInterrupt_cartState (k : IntClass) (s : State) : (triggerInterrupt k s).cartState = s.cartState := rfl
@[simp] theorem triggerInterrupt_dispState (k : IntClass) (s : State) : (triggerInterrupt k s).dispState = s.dispState := rfl
@[simp] theorem triggerInterrupt_ioInput (k : IntClass) (s : State) : (triggerInterrupt k s).ioInput = s.ioInput := rfl
@[simp] theorem triggerInterrupt_events (k : IntClass) (s : State) : (triggerInterrupt k s).events = s.events := rfl
@[simp] theorem triggerInterrupt_frameComposed (k : IntClass) (s : State) : (triggerInterrupt k s).frameComposed = s.frameComposed := rfl
@[simp] theorem triggerInterrupt_frameHold (k : IntClass) (s : State) : (triggerInterrupt k s).frameHold = s.frameHold := rfl
@[simp] theorem triggerInterrupt_terminate (k : IntClass) (s : State) : (triggerInterrupt k s).terminate = s.terminate := rfl
@[simp] theorem triggerInterrupt_params (k : IntClass) (s : State) : (triggerInterrupt k s).params = s.params := rfl

/-! ### handlerView -/

@[simp] theorem handlerView_a (s : State) : (handlerView s).a = s.a := rfl
@[simp] theorem handlerView_b (s : State) : (handlerView s).b = s.b := rfl
@[simp] theorem handlerView_c (s : State) : (handlerView s).c = s.c := rfl
@[simp] theorem handlerView_d (s : State) : (handlerView s).d = s.d := rfl
@[simp] theorem handlerView_e (s : State) : (handlerView s).e = s.e := rfl
@[simp] theorem handlerView_h (s : State) : (handlerView s).h = s.h := rfl
@[simp] theorem handlerView_l (s : State) : (handlerView s).l = s.l := rfl
@[simp] theorem handlerView_f (s : State) : (handlerView s).f = s.f := rfl
@[simp] theorem handlerView_sp (s : State) : (handlerView s).sp = s.sp := rfl
@[simp] theorem handlerView_pc (s : State) : (handlerView s).pc = s.pc := rfl
@[simp] theorem handlerView_ime (s : State) : (handlerView s).ime = false := rfl
@[simp] theorem handlerView_imeDelay (s : State) : (handlerView s).imeDelay = s.imeDelay := rfl
@[simp] theorem handlerView_halted (s : State) : (handlerView s).halted = s.halted := rfl
@[simp] theorem handlerView_instrCount (s : State) : (handlerView s).instrCount = 0 := rfl
@[simp] theorem handlerView_timerEnabled (s : State) : (handlerView s).timerEnabled = s.timerEnabled := rfl
@[simp] theorem handlerView_timaRate (s : State) : (handlerView s).timaRate = s.timaRate := rfl
@[simp] theorem handlerView_doubleSpeed (s : State) : (handlerView s).doubleSpeed = s.doubleSpeed := rfl
@[simp] theorem handlerView_div (s : State) : (handlerView s).div = s.div := rfl
@[simp] theorem handlerView_tima (s : State) : (handlerView s).tima = s.tima := rfl
@[simp] theorem handlerView_tma (s : State) : (handlerView s).tma = s.tma := rfl
@[simp] theorem handlerView_tac (s : State) : (handlerView s).tac = s.tac := rfl
@[simp] theorem handlerView_ifReg (s : State) : (handlerView s).ifReg = s.ifReg := rfl
@[simp] theorem handlerView_lcdc (s : State) : (handlerView s).lcdc = s.lcdc := rfl
@[simp] theorem handlerView_stat (s : State) : (handlerView s).stat = s.stat := rfl
@[simp] theorem handlerView_ly (s : State) : (handlerView s).ly = s.ly := rfl
@[simp] theorem handlerView_lyc (s : State) : (handlerView s).lyc = s.lyc := rfl
@[simp] theorem handlerView_ieReg (s : State) : (handlerView s).ieReg = s.ieReg := rfl
@[simp] theorem handlerView_io (s : State) : (handlerView s).io = s.io := rfl
@[simp] theorem handlerView_wram (s : State) : (handlerView s).wram = s.wram := rfl
@[simp] theorem handlerView_wramBank (s : State) : (handlerView s).wramBank = s.wramBank := rfl
@[simp] theorem handlerView_oam (s : State) : (handlerView s).oam = s.oam := rfl
@[simp] theorem handlerView_rom (s : State) : (handlerView s).rom = s.rom := rfl
@[simp] theorem handlerView_cram (s : State) : (handlerView s).cram = s.cram := rfl
@[simp] theorem handlerView_vram (s : State) : (handlerView s).vram = s.vram := rfl
@[simp] theorem handlerView_cartState (s : State) : (handlerView s).cartState = s.cartState := rfl
@[simp] theorem handlerView_dispState (s : State) : (handlerView s).dispState = s.dispState := rfl
@[simp] theorem handlerView_ioInput (s : State) : (handlerView s).ioInput = s.ioInput := rfl
@[simp] theorem handlerView_events (s : State) : (handlerView s).events = [] := rfl
@[simp] theorem handlerView_frameComposed (s : State) : (handlerView s).frameComposed = false := rfl
@[simp] theorem handlerView_frameHold (s : State) : (handlerView s).frameHold = false := rfl
@[simp] theorem handlerView_terminate (s : State) : (handlerView s).terminate = false := rfl
@[simp] theorem handlerView_params (s : State) : (handlerView s).params = s.params := rfl

/-! ### cartStore -/

@[simp] theorem cartStore_a (a : Word) (v : Byte) (s : State) : (cartStore a v s).a = s.a := rfl
@[simp] theorem cartStore_b (a : Word) (v : Byte) (s : State) : (cartStore a v s).b = s.b := rfl
@[simp] theorem cartStore_c (a : Word) (v : Byte) (s : State) : (cartStore a v s).c = s.c := rfl
@[simp] theorem cartStore_d (a : Word) (v : Byte) (s : State) : (cartStore a v s).d = s.d := rfl
@[simp] theorem cartStore_e (a : Word) (v : Byte) (s : State) : (cartStore a v s).e = s.e := rfl
@[simp] theorem cartStore_h (a : Word) (v : Byte) (s : State) : (cartStore a v s).h = s.h := rfl
@[simp] theorem cartStore_l (a : Word) (v : Byte) (s : State) : (cartStore a v s).l = s.l := rfl
@[simp] theorem cartStore_f (a : Word) (v : Byte) (s : State) : (cartStore a v s).f = s.f := rfl
@[simp] theorem cartStore_sp (a : Word) (v : Byte) (s : State) : (cartStore a v s).sp = s.sp := rfl
@[simp] theorem cartStore_pc (a : Word) (v : Byte) (s : State) : (cartStore a v s).pc = s.pc := rfl
@[simp] theorem cartStore_ime (a : Word) (v : Byte) (s : State) : (cartStore a v s).ime = s.ime := rfl
@[simp] theorem cartStore_imeDelay (a : Word) (v : Byte) (s : State) : (cartStore a v s).imeDelay = s.imeDelay := rfl
@[simp] theorem cartStore_halted (a : Word) (v : Byte) (s : State) : (cartStore a v s).halted = s.halted := rfl
@[simp] theorem cartStore_instrCount (a : Word) (v : Byte) (s : State) : (cartStore a v s).instrCount = s.instrCount := rfl
@[simp] theorem cartStore_timerEnabled (a : Word) (v : Byte) (s : State) : (cartStore a v s).timerEnabled = s.timerEnabled := rfl
@[simp] theorem cartStore_timaRate (a : Word) (v : Byte) (s : State) : (cartStore a v s).timaRate = s.timaRate := rfl
@[simp] theorem cartStore_doubleSpeed (a : Word) (v : Byte) (s : State) : (cartStore a v s).doubleSpeed = s.doubleSpeed := rfl
@[simp] theorem cartStore_div (a : Word) (v : Byte) (s : State) : (cartStore a v s).div = s.div := rfl
@[simp] theorem cartStore_tima (a : Word) (v : Byte) (s : State) : (cartStore a v s).tima = s.tima := rfl
@[simp] theorem cartStore_tma (a : Word) (v : Byte) (s : State) : (cartStore a v s).tma = s.tma := rfl
@[simp] theorem cartStore_tac (a : Word) (v : Byte) (s : State) : (cartStore a v s).tac = s.tac := rfl
@[simp] theorem cartStore_ifReg (a : Word) (v : Byte) (s : State) : (cartStore a v s).ifReg = s.ifReg := rfl
@[simp] theorem cartStore_lcdc (a : Word) (v : Byte) (s : State) : (cartStore a v s).lcdc = s.lcdc := rfl
@[simp] theorem cartStore_stat (a : Word) (v : Byte) (s : State) : (cartStore a v s).stat = s.stat := rfl
@[simp] theorem cartStore_ly (a : Word) (v : Byte) (s : State) : (cartStore a v s).ly = s.ly := rfl
@[simp] theorem cartStore_lyc (a : Word) (v : Byte) (s : State) : (cartStore a v s).lyc = s.lyc := rfl
@[simp] theorem cartStore_ieReg (a : Word) (v : Byte) (s : State) : (cartStore a v s).ieReg = s.ieReg := rfl
@[simp] theorem cartStore_io (a : Word) (v : Byte) (s : State) : (cartStore a v s).io = s.io := rfl
@[simp] theorem cartStore_wram (a : Word) (v : Byte) (s : State) : (cartStore a v s).wram = s.wram := rfl
@[simp] theorem cartStore_wramBank (a : Word) (v : Byte) (s : State) : (cartStore a v s).wramBank = s.wramBank := rfl
@[simp] theorem cartStore_oam (a : Word) (v : Byte) (s : State) : (cartStore a v s).oam = s.oam := rfl
@[simp] theorem cartStore_vram (a : Word) (v : Byte) (s : State) : (cartStore a v s).vram = s.vram := rfl
@[simp] theorem cartStore_cartState (a : Word) (v : Byte) (s : State) : (cartStore a v s).cartState = s.cartState := rfl
@[simp] theorem cartStore_dispState (a : Word) (v : Byte) (s : State) : (cartStore a v s).dispState = s.dispState := rfl
@[simp] theorem cartStore_ioInput (a : Word) (v : Byte) (s : State) : (cartStore a v s).ioInput = s.ioInput := rfl
@[simp] theorem cartStore_events (a : Word) (v : Byte) (s : State) : (cartStore a v s).events = s.events := rfl
@[simp] theorem cartStore_frameComposed (a : Word) (v : Byte) (s : State) : (cartStore a v s).frameComposed = s.frameComposed := rfl
@[simp] theorem cartStore_frameHold (a : Word) (v : Byte) (s : State) : (cartStore a v s).frameHold = s.frameHold := rfl
@[simp] theorem cartStore_terminate (a : Word) (v : Byte) (s : State) : (cartStore a v s).terminate = s.terminate := rfl
@[simp] theorem cartStore_params (a : Word) (v : Byte) (s : State) : (cartStore a v s).params = s.params := rfl

/-! ### useReference -/

@[simp] theorem useReference_a (r : Region) (s : State) : (useReference r s).a = s.a := rfl
@[simp] theorem useReference_b (r : Region) (s : State) : (useReference r s).b = s.b := rfl
@[simp] theorem useReference_c (r : Region) (s : State) : (useReference r s).c = s.c := rfl
@[simp] theorem useReference_d (r : Region) (s : State) : (useReference r s).d = s.d := rfl
@[simp] theorem useReference_e (r : Region) (s : State) : (useReference r s).e = s.e := rfl
@[simp] theorem useReference_h (r : Region) (s : State) : (useReference r s).h = s.h := rfl
@[simp] theorem useReference_l (r : Region) (s : State) : (useReference r s).l = s.l := rfl
@[simp] theorem useReference_f (r : Region) (s : State) : (useReference r s).f = s.f := rfl
@[simp] theorem useReference_sp (r : Region) (s : State) : (useReference r s).sp = s.sp := rfl
@[simp] theorem useReference_pc (r : Region) (s : State) : (useReference r s).pc = s.pc := rfl
@[simp] theorem useReference_ime (r : Region) (s : State) : (useReference r s).ime = s.ime := rfl
@[simp] theorem useReference_imeDelay (r : Region) (s : State) : (useReference r s).imeDelay = s.imeDelay := rfl
@[simp] theorem useReference_halted (r : Region) (s : State) : (useReference r s).halted = s.halted := rfl
@[simp] theorem useReference_instrCount (r : Region) (s : State) : (useReference r s).instrCount = s.instrCount := rfl
@[simp] theorem useReference_timerEnabled (r : Region) (s : State) : (useReference r s).timerEnabled = s.timerEnabled := rfl
@[simp] theorem useReference_timaRate (r : Region) (s : State) : (useReference r s).timaRate = s.timaRate := rfl
@[simp] theorem useReference_doubleSpeed (r : Region) (s : State) : (useReference r s).doubleSpeed = s.doubleSpeed := rfl
@[simp] theorem useReference_div (r : Region) (s : State) : (useReference r s).div = s.div := rfl
@[simp] theorem useReference_tima (r : Region) (s : State) : (useReference r s).tima = s.tima := rfl
@[simp] theorem useReference_tma (r : Region) (s : State) : (useReference r s).tma = s.tma := rfl
@[simp] theorem useReference_tac (r : Region) (s : State) : (useReference r s).tac = s.tac := rfl
@[simp] theorem useReference_ifReg (r : Region) (s : State) : (useReference r s).ifReg = s.ifReg := rfl
@[simp] theorem useReference_lcdc (r : Region) (s : State) : (useReference r s).lcdc = s.lcdc := rfl
@[simp] theorem useReference_stat (r : Region) (s : State) : (useReference r s).stat = s.stat := rfl
@[simp] theorem useReference_ly (r : Region) (s : State) : (useReference r s).ly = s.ly := rfl
@[simp] theorem useReference_lyc (r : Region) (s : State) : (useReference r s).lyc = s.lyc := rfl
@[simp] theorem useReference_ieReg (r : Region) (s : State) : (useReference r s).ieReg = s.ieReg := rfl
@[simp] theorem useReference_io (r : Region) (s : State) : (useReference r s).io = s.io := rfl
@[simp] theorem useReference_wram (r : Region) (s : State) : (useReference r s).wram = s.wram := rfl
@[simp] theorem useReference_wramBank (r : Region) (s : State) : (useReference r s).wramBank = s.wramBank := rfl
@[simp] theorem useReference_oam (r : Region) (s : State) : (useReference r s).oam = s.oam := rfl
@[simp] theorem useReference_rom (r : Region) (s : State) : (useReference r s).rom = s.rom := rfl
@[simp] theorem useReference_cram (r : Region) (s : State) : (useReference r s).cram = s.cram := rfl
@[simp] theorem useReference_vram (r : Region) (s : State) : (useReference r s).vram = s.vram := rfl
@[simp] theorem useReference_cartState (r : Region) (s : State) : (useReference r s).cartState = s.cartState := rfl
@[simp] theorem useReference_dispState (r : Region) (s : State) : (useReference r s).dispState = s.dispState := rfl
@[simp] theorem useReference_ioInput (r : Region) (s : State) : (useReference r s).ioInput = s.ioInput := rfl
@[simp] theorem useReference_events (r : Region) (s : State) : (useReference r s).events = s.events := rfl
@[simp] theorem useReference_frameComposed (r : Region) (s : State) : (useReference r s).frameComposed = s.frameComposed := rfl
@[simp] theorem useReference_frameHold (r : Region) (s : State) : (useReference r s).frameHold = s.frameHold := rfl
@[simp] theorem useReference_terminate (r : Region) (s : State) : (useReference r s).terminate = s.terminate := rfl

/-! ### wramWrite -/

@[simp] theorem wramWrite_a (a : Word) (v : Byte) (s : State) : (wramWrite a v s).a = s.a := rfl
@[simp] theorem wramWrite_b (a : Word) (v : Byte) (s : State) : (wramWrite a v s).b = s.b := rfl
@[simp] theorem wramWrite_c (a : Word) (v : Byte) (s : State) : (wramWrite a v s).c = s.c := rfl
@[simp] theorem wramWrite_d (a : Word) (v : Byte) (s : State) : (wramWrite a v s).d = s.d := rfl
@[simp] theorem wramWrite_e (a : Word) (v : Byte) (s : State) : (wramWrite a v s).e = s.e := rfl
@[simp] theorem wramWrite_h (a : Word) (v : Byte) (s : State) : (wramWrite a v s).h = s.h := rfl
@[simp] theorem wramWrite_l (a : Word) (v : Byte) (s : State) : (wramWrite a v s).l = s.l := rfl
@[simp] theorem wramWrite_f (a : Word) (v : Byte) (s : State) : (wramWrite a v s).f = s.f := rfl
@[simp] theorem wramWrite_sp (a : Word) (v : Byte) (s : State) : (wramWrite a v s).sp = s.sp := rfl
@[simp] theorem wramWrite_pc (a : Word) (v : Byte) (s : State) : (wramWrite a v s).pc = s.pc := rfl
@[simp] theorem wramWrite_ime (a : Word) (v : Byte) (s : State) : (wramWrite a v s).ime = s.ime := rfl
@[simp] theorem wramWrite_imeDelay (a : Word) (v : Byte) (s : State) : (wramWrite a v s).imeDelay = s.imeDelay := rfl
@[simp] theorem wramWrite_halted (a : Word) (v : Byte) (s : State) : (wramWrite a v s).halted = s.halted := rfl
@[simp] theorem wramWrite_instrCount (a : Word) (v : Byte) (s : State) : (wramWrite a v s).instrCount = s.instrCount := rfl
@[simp] theorem wramWrite_timerEnabled (a : Word) (v : Byte) (s : State) : (wramWrite a v s).timerEnabled = s.timerEnabled := rfl
@[simp] theorem wramWrite_timaRate (a : Word) (v : Byte) (s : State) : (wramWrite a v s).timaRate = s.timaRate := rfl
@[simp] theorem wramWrite_doubleSpeed (a : Word) (v : Byte) (s : State) : (wramWrite a v s).doubleSpeed = s.doubleSpeed := rfl
@[simp] theorem wramWrite_div (a : Word) (v : Byte) (s : State) : (wramWrite a v s).div = s.div := rfl
@[simp] theorem wramWrite_tima (a : Word) (v : Byte) (s : State) : (wramWrite a v s).tima = s.tima := rfl
@[simp] theorem wramWrite_tma (a : Word) (v : Byte) (s : State) : (wramWrite a v s).tma = s.tma := rfl
@[simp] theorem wramWrite_tac (a : Word) (v : Byte) (s : State) : (wramWrite a v s).tac = s.tac := rfl
@[simp] theorem wramWrite_ifReg (a : Word) (v : Byte) (s : State) : (wramWrite a v s).ifReg = s.ifReg := rfl
@[simp] theorem wramWrite_lcdc (a : Word) (v : Byte) (s : State) : (wramWrite a v s).lcdc = s.lcdc := rfl
@[simp] theorem wramWrite_stat (a : Word) (v : Byte) (s : State) : (wramWrite a v s).stat = s.stat := rfl
@[simp] theorem wramWrite_ly (a : Word) (v : Byte) (s : State) : (wramWrite a v s).ly = s.ly := rfl
@[simp] theorem wramWrite_lyc (a : Word) (v : Byte) (s : State) : (wramWrite a v s).lyc = s.lyc := rfl
@[simp] theorem wramWrite_ieReg (a : Word) (v : Byte) (s : State) : (wramWrite a v s).ieReg = s.ieReg := rfl
@[simp] theorem wramWrite_io (a : Word) (v : Byte) (s : State) : (wramWrite a v s).io = s.io := rfl
@[simp] theorem wramWrite_wram (a : Word) (v : Byte) (s : State) : (wramWrite a v s).wram = memSet s.wram (wramIndex s.wramBank a) v := rfl
@[simp] theorem wramWrite_wramBank (a : Word) (v : Byte) (s : State) : (wramWrite a v s).wramBank = s.wramBank := rfl
@[simp] theorem wramWrite_oam (a : Word) (v : Byte) (s : State) : (wramWrite a v s).oam = s.oam := rfl
@[simp] theorem wramWrite_rom (a : Word) (v : Byte) (s : State) : (wramWrite a v s).rom = s.rom := rfl
@[simp] theorem wramWrite_cram (a : Word) (v : Byte) (s : State) : (wramWrite a v s).cram = s.cram := rfl
@[simp] theorem wramWrite_vram (a : Word) (v : Byte) (s : State) : (wramWrite a v s).vram = s.vram := rfl
@[simp] theorem wramWrite_cartState (a : Word) (v : Byte) (s : State) : (wramWrite a v s).cartState = s.cartState := rfl
@[simp] theorem wramWrite_dispState (a : Word) (v : Byte) (s : State) : (wramWrite a v s).dispState = s.dispState := rfl
@[simp] theorem wramWrite_ioInput (a : Word) (v : Byte) (s : State) : (wramWrite a v s).ioInput = s.ioInput := rfl
@[simp] theorem wramWrite_events (a : Word) (v : Byte) (s : State) : (wramWrite a v s).events = s.events := rfl
@[simp] theorem wramWrite_frameComposed (a : Word) (v : Byte) (s : State) : (wramWrite a v s).frameComposed = s.frameComposed := rfl
@[simp] theorem wramWrite_frameHold (a : Word) (v : Byte) (s : State) : (wramWrite a v s).frameHold = s.frameHold := rfl
@[simp] theorem wramWrite_terminate (a : Word) (v : Byte) (s : State) : (wramWrite a v s).terminate = s.terminate := rfl
@[simp] theorem wramWrite_params (a : Word) (v : Byte) (s : State) : (wramWrite a v s).params = s.params := rfl

/-! ### dropStack -/

@[simp] theorem dropStack_a (s : State) : (dropStack s).a = s.a := rfl
@[simp] theorem dropStack_b (s : State) : (dropStack s).b = s.b := rfl
@[simp] theorem dropStack_c (s : State) : (dropStack s).c = s.c := rfl
@[simp] theorem dropStack_d (s : State) : (dropStack s).d = s.d := rfl
@[simp] theorem dropStack_e (s : State) : (dropStack s).e = s.e := rfl
@[simp] theorem dropStack_h (s : State) : (dropStack s).h = s.h := rfl
@[simp] theorem dropStack_l (s : State) : (dropStack s).l = s.l := rfl
@[simp] theorem dropStack_f (s : State) : (dropStack s).f = s.f := rfl
@[simp] theorem dropStack_sp (s : State) : (dropStack s).sp = s.sp + 2 := rfl
@[simp] theorem dropStack_pc (s : State) : (dropStack s).pc = s.pc := rfl
@[simp] theorem dropStack_ime (s : State) : (dropStack s).ime = s.ime := rfl
@[simp] theorem dropStack_imeDelay (s : State) : (dropStack s).imeDelay = s.imeDelay := rfl
@[simp] theorem dropStack_halted (s : State) : (dropStack s).halted = s.halted := rfl
@[simp] theorem dropStack_instrCount (s : State) : (dropStack s).instrCount = s.instrCount := rfl
@[simp] theorem dropStack_timerEnabled (s : State) : (dropStack s).timerEnabled = s.timerEnabled := rfl
@[simp] theorem dropStack_timaRate (s : State) : (dropStack s).timaRate = s.timaRate := rfl
@[simp] theorem dropStack_doubleSpeed (s : State) : (dropStack s).doubleSpeed = s.doubleSpeed := rfl
@[simp] theorem dropStack_div (s : State) : (dropStack s).div = s.div := rfl
@[simp] theorem dropStack_tima (s : State) : (dropStack s).tima = s.tima := rfl
@[simp] theorem dropStack_tma (s : State) : (dropStack s).tma = s.tma := rfl
@[simp] theorem dropStack_tac (s : State) : (dropStack s).tac = s.tac := rfl
@[simp] theorem dropStack_ifReg (s : State) : (dropStack s).ifReg = s.ifReg := rfl
@[simp] theorem dropStack_lcdc (s : State) : (dropStack s).lcdc = s.lcdc := rfl
@[simp] theorem dropStack_stat (s : State) : (dropStack s).stat = s.stat := rfl
@[simp] theorem dropStack_ly (s : State) : (dropStack s).ly = s.ly := rfl
@[simp] theorem dropStack_lyc (s : State) : (dropStack s).lyc = s.lyc := rfl
@[simp] theorem dropStack_ieReg (s : State) : (dropStack s).ieReg = s.ieReg := rfl
@[simp] theorem dropStack_io (s : State) : (dropStack s).io = s.io := rfl
@[simp] theorem dropStack_wram (s : State) : (dropStack s).wram = s.wram := rfl
@[simp] theorem dropStack_wramBank (s : State) : (dropStack s).wramBank = s.wramBank := rfl
@[simp] theorem dropStack_oam (s : State) : (dropStack s).oam = s.oam := rfl
@[simp] theorem dropStack_rom (s : State) : (dropStack s).rom = s.rom := rfl
@[simp] theorem dropStack_cram (s : State) : (dropStack s).cram = s.cram := rfl
@[simp] theorem dropStack_vram (s : State) : (dropStack s).vram = s.vram := rfl
@[simp] theorem dropStack_cartState (s : State) : (dropStack s).cartState = s.cartState := rfl
@[simp] theorem dropStack_dispState (s : State) : (dropStack s).dispState = s.dispState := rfl
@[simp] theorem dropStack_ioInput (s : State) : (dropStack s).ioInput = s.ioInput := rfl
@[simp] theorem dropStack_events (s : State) : (dropStack s).events = s.events := rfl
@[simp] theorem dropStack_frameComposed (s : State) : (dropStack s).frameComposed = s.frameComposed := rfl
@[simp] theorem dropStack_frameHold (s : State) : (dropStack s).frameHold = s.frameHold := rfl
@[simp] theorem dropStack_terminate (s : State) : (dropStack s).terminate = s.terminate := rfl
@[simp] theorem dropStack_params (s : State) : (dropStack s).params = s.params := rfl

/-! ### release -/

@[simp] theorem release_a (s : State) : (release s).a = s.a := rfl
@[simp] theorem release_b (s : State) : (release s).b = s.b := rfl
@[simp] theorem release_c (s : State) : (release s).c = s.c := rfl
@[simp] theorem release_d (s : State) : (release s).d = s.d := rfl
@[simp] theorem release_e (s : State) : (release s).e = s.e := rfl
@[simp] theorem release_h (s : State) : (release s).h = s.h := rfl
@[simp] theorem release_l (s : State) : (release s).l = s.l := rfl
@[simp] theorem release_f (s : State) : (release s).f = s.f := rfl
@[simp] theorem release_sp (s : State) : (release s).sp = s.sp := rfl
@[simp] theorem release_pc (s : State) : (release s).pc = s.pc := rfl
@[simp] theorem release_ime (s : State) : (release s).ime = s.ime := rfl
@[simp] theorem release_imeDelay (s : State) : (release s).imeDelay = s.imeDelay := rfl
@[simp] theorem release_halted (s : State) : (release s).halted = s.halted := rfl
@[simp] theorem release_instrCount (s : State) : (release s).instrCount = s.instrCount := rfl
@[simp] theorem release_timerEnabled (s : State) : (release s).timerEnabled = s.timerEnabled := rfl
@[simp] theorem release_timaRate (s : State) : (release s).timaRate = s.timaRate := rfl
@[simp] theorem release_doubleSpeed (s : State) : (release s).doubleSpeed = s.doubleSpeed := rfl
@[simp] theorem release_div (s : State) : (release s).div = s.div := rfl
@[simp] theorem release_tima (s : State) : (release s).tima = s.tima := rfl
@[simp] theorem release_tma (s : State) : (release s).tma = s.tma := rfl
@[simp] theorem release_tac (s : State) : (release s).tac = s.tac := rfl
@[simp] theorem release_ifReg (s : State) : (release s).ifReg = s.ifReg := rfl
@[simp] theorem release_lcdc (s : State) : (release s).lcdc = s.lcdc := rfl
@[simp] theorem release_stat (s : State) : (release s).stat = s.stat := rfl
@[simp] theorem release_ly (s : State) : (release s).ly = s.ly := rfl
@[simp] theorem release_lyc (s : State) : (release s).lyc = s.lyc := rfl
@[simp] theorem release_ieReg (s : State) : (release s).ieReg = s.ieReg := rfl
@[simp] theorem release_io (s : State) : (release s).io = s.io := rfl
@[simp] theorem release_wram (s : State) : (release s).wram = s.wram := rfl
@[simp] theorem release_wramBank (s : State) : (release s).wramBank = s.wramBank := rfl
@[simp] theorem release_oam (s : State) : (release s).oam = s.oam := rfl
@[simp] theorem release_rom (s : State) : (release s).rom = s.rom := rfl
@[simp] theorem release_cram (s : State) : (release s).cram = s.cram := rfl
@[simp] theorem release_vram (s : State) : (release s).vram = s.vram := rfl
@[simp] theorem release_cartState (s : State) : (release s).cartState = s.cartState := rfl
@[simp] theorem release_dispState (s : State) : (release s).dispState = s.dispState := rfl
@[simp] theorem release_ioInput (s : State) : (release s).ioInput = s.ioInput := rfl
@[simp] theorem release_events (s : State) : (release s).events = s.events := rfl
@[simp] theorem release_frameComposed (s : State) : (release s).frameComposed = s.frameComposed := rfl
@[simp] theorem release_frameHold (s : State) : (release s).frameHold = false := rfl
@[simp] theorem release_terminate (s : State) : (release s).terminate = s.terminate := rfl
@[simp] theorem release_params (s : State) : (release s).params = s.params := rfl

/-! ### countdown -/

@[simp] theorem countdown_a (s : State) : (countdown s).a = s.a := rfl
@[simp] theorem countdown_b (s : State) : (countdown s).b = s.b := rfl
@[simp] theorem countdown_c (s : State) : (countdown s).c = s.c := rfl
@[simp] theorem countdown_d (s : State) : (countdown s).d = s.d := rfl
@[simp] theorem countdown_e (s : State) : (countdown s).e = s.e := rfl
@[simp] theorem countdown_h (s : State) : (countdown s).h = s.h := rfl
@[simp] theorem countdown_l (s : State) : (countdown s).l = s.l := rfl
@[simp] theorem countdown_f (s : State) : (countdown s).f = s.f := rfl
@[simp] theorem countdown_sp (s : State) : (countdown s).sp = s.sp := rfl
@[simp] theorem countdown_pc (s : State) : (countdown s).pc = s.pc := rfl
@[simp] theorem countdown_ime (s : State) : (countdown s).ime = if s.imeDelay = .expiring then true else s.ime := rfl
@[simp] theorem countdown_imeDelay (s : State) : (countdown s).imeDelay = s.imeDelay.countdown := rfl
@[simp] theorem countdown_halted (s : State) : (countdown s).halted = s.halted := rfl
@[simp] theorem countdown_instrCount (s : State) : (countdown s).instrCount = s.instrCount := rfl
@[simp] theorem countdown_timerEnabled (s : State) : (countdown s).timerEnabled = s.timerEnabled := rfl
@[simp] theorem countdown_timaRate (s : State) : (countdown s).timaRate = s.timaRate := rfl
@[simp] theorem countdown_doubleSpeed (s : State) : (countdown s).doubleSpeed = s.doubleSpeed := rfl
@[simp] theorem countdown_div (s : State) : (countdown s).div = s.div := rfl
@[simp] theorem countdown_tima (s : State) : (countdown s).tima = s.tima := rfl
@[simp] theorem countdown_tma (s : State) : (countdown s).tma = s.tma := rfl
@[simp] theorem countdown_tac (s : State) : (countdown s).tac = s.tac := rfl
@[simp] theorem countdown_ifReg (s : State) : (countdown s).ifReg = s.ifReg := rfl
@[simp] theorem countdown_lcdc (s : State) : (countdown s).lcdc = s.lcdc := rfl
@[simp] theorem countdown_stat (s : State) : (countdown s).stat = s.stat := rfl
@[simp] theorem countdown_ly (s : State) : (countdown s).ly = s.ly := rfl
@[simp] theorem countdown_lyc (s : State) : (countdown s).lyc = s.lyc := rfl
@[simp] theorem countdown_ieReg (s : State) : (countdown s).ieReg = s.ieReg := rfl
@[simp] theorem countdown_io (s : State) : (countdown s).io = s.io := rfl
@[simp] theorem countdown_wram (s : State) : (countdown s).wram = s.wram := rfl
@[simp] theorem countdown_wramBank (s : State) : (countdown s).wramBank = s.wramBank := rfl
@[simp] theorem countdown_oam (s : State) : (countdown s).oam = s.oam := rfl
@[simp] theorem countdown_rom (s : State) : (countdown s).rom = s.rom := rfl
@[simp] theorem countdown_cram (s : State) : (countdown s).cram = s.cram := rfl
@[simp] theorem countdown_vram (s : State) : (countdown s).vram = s.vram := rfl
@[simp] theorem countdown_cartState (s : State) : (countdown s).cartState = s.cartState := rfl
@[simp] theorem countdown_dispState (s : State) : (countdown s).dispState = s.dispState := rfl
@[simp] theorem countdown_ioInput (s : State) : (countdown s).ioInput = s.ioInput := rfl
@[simp] theorem countdown_events (s : State) : (countdown s).events = s.events := rfl
@[simp] theorem countdown_frameComposed (s : State) : (countdown s).frameComposed = s.frameComposed := rfl
@[simp] theorem countdown_frameHold (s : State) : (countdown s).frameHold = s.frameHold := rfl
@[simp] theorem countdown_terminate (s : State) : (countdown s).terminate = s.terminate := rfl
@[simp] theorem countdown_params (s : State) : (countdown s).params = s.params := rfl

/-! ### cartPeriodicUpdate -/

@[simp] theorem cartPeriodicUpdate_a (s : State) : (cartPeriodicUpdate s).a = s.a := rfl
@[simp] theorem cartPeriodicUpdate_b (s : State) : (cartPeriodicUpdate s).b = s.b := rfl
@[simp] theorem cartPeriodicUpdate_c (s : State) : (cartPeriodicUpdate s).c = s.c := rfl
@[simp] theorem cartPeriodicUpdate_d (s : State) : (cartPeriodicUpdate s).d = s.d := rfl
@[simp] theorem cartPeriodicUpdate_e (s : State) : (cartPeriodicUpdate s).e = s.e := rfl
@[simp] theorem cartPeriodicUpdate_h (s : State) : (cartPeriodicUpdate s).h = s.h := rfl
@[simp] theorem cartPeriodicUpdate_l (s : State) : (cartPeriodicUpdate s).l = s.l := rfl
@[simp] theorem cartPeriodicUpdate_f (s : State) : (cartPeriodicUpdate s).f = s.f := rfl
@[simp] theorem cartPeriodicUpdate_sp (s : State) : (cartPeriodicUpdate s).sp = s.sp := rfl
@[simp] theorem cartPeriodicUpdate_pc (s : State) : (cartPeriodicUpdate s).pc = s.pc := rfl
@[simp] theorem cartPeriodicUpdate_ime (s : State) : (cartPeriodicUpdate s).ime = s.ime := rfl
@[simp] theorem cartPeriodicUpdate_imeDelay (s : State) : (cartPeriodicUpdate s).imeDelay = s.imeDelay := rfl
@[simp] theorem cartPeriodicUpdate_halted (s : State) : (cartPeriodicUpdate s).halted = s.halted := rfl
@[simp] theorem cartPeriodicUpdate_instrCount (s : State) : (cartPeriodicUpdate s).instrCount = s.instrCount := rfl
@[simp] theorem cartPeriodicUpdate_timerEnabled (s : State) : (cartPeriodicUpdate s).timerEnabled = s.timerEnabled := rfl
@[simp] theorem cartPeriodicUpdate_timaRate (s : State) : (cartPeriodicUpdate s).timaRate = s.timaRate := rfl
@[simp] theorem cartPeriodicUpdate_doubleSpeed (s : State) : (cartPeriodicUpdate s).doubleSpeed = s.doubleSpeed := rfl
@[simp] theorem cartPeriodicUpdate_div (s : State) : (cartPeriodicUpdate s).div = s.div := rfl
@[simp] theorem cartPeriodicUpdate_tima (s : State) : (cartPeriodicUpdate s).tima = s.tima := rfl
@[simp] theorem cartPeriodicUpdate_tma (s : State) : (cartPeriodicUpdate s).tma = s.tma := rfl
@[simp] theorem cartPeriodicUpdate_tac (s : State) : (cartPeriodicUpdate s).tac = s.tac := rfl
@[simp] theorem cartPeriodicUpdate_ifReg (s : State) : (cartPeriodicUpdate s).ifReg = s.ifReg := rfl
@[simp] theorem cartPeriodicUpdate_lcdc (s : State) : (cartPeriodicUpdate s).lcdc = s.lcdc := rfl
@[simp] theorem cartPeriodicUpdate_stat (s : State) : (cartPeriodicUpdate s).stat = s.stat := rfl
@[simp] theorem cartPeriodicUpdate_ly (s : State) : (cartPeriodicUpdate s).ly = s.ly := rfl
@[simp] theorem cartPeriodicUpdate_lyc (s : State) : (cartPeriodicUpdate s).lyc = s.lyc := rfl
@[simp] theorem cartPeriodicUpdate_ieReg (s : State) : (cartPeriodicUpdate s).ieReg = s.ieReg := rfl
@[simp] theorem cartPeriodicUpdate_io (s : State) : (cartPeriodicUpdate s).io = s.io := rfl
@[simp] theorem cartPeriodicUpdate_wram (s : State) : (cartPeriodicUpdate s).wram = s.wram := rfl
@[simp] theorem cartPeriodicUpdate_wramBank (s : State) : (cartPeriodicUpdate s).wramBank = s.wramBank := rfl
@[simp] theorem cartPeriodicUpdate_oam (s : State) : (cartPeriodicUpdate s).oam = s.oam := rfl
@[simp] theorem cartPeriodicUpdate_rom (s : State) : (cartPeriodicUpdate s).rom = s.rom := rfl
@[simp] theorem cartPeriodicUpdate_cram (s : State) : (cartPeriodicUpdate s).cram = s.cram := rfl
@[simp] theorem cartPeriodicUpdate_vram (s : State) : (cartPeriodicUpdate s).vram = s.vram := rfl
@[simp] theorem cartPeriodicUpdate_dispState (s : State) : (cartPeriodicUpdate s).dispState = s.dispState := rfl
@[simp] theorem cartPeriodicUpdate_ioInput (s : State) : (cartPeriodicUpdate s).ioInput = s.ioInput := rfl
@[simp] theorem cartPeriodicUpdate_events (s : State) : (cartPeriodicUpdate s).events = s.events := rfl
@[simp] theorem cartPeriodicUpdate_frameComposed (s : State) : (cartPeriodicUpdate s).frameComposed = s.frameComposed := rfl
@[simp] theorem cartPeriodicUpdate_frameHold (s : State) : (cartPeriodicUpdate s).frameHold = s.frameHold := rfl
@[simp] theorem cartPeriodicUpdate_terminate (s : State) : (cartPeriodicUpdate s).terminate = s.terminate := rfl
@[simp] theorem cartPeriodicUpdate_params (s : State) : (cartPeriodicUpdate s).params = s.params := rfl

/-! ### wakeUp -/

@[simp] theorem wakeUp_a (s : State) : (wakeUp s).a = s.a := rfl
@[simp] theorem wakeUp_b (s : State) : (wakeUp s).b = s.b := rfl
@[simp] theorem wakeUp_c (s : State) : (wakeUp s).c = s.c := rfl
@[simp] theorem wakeUp_d (s : State) : (wakeUp s).d = s.d := rfl
@[simp] theorem wakeUp_e (s : State) : (wakeUp s).e = s.e := rfl
@[simp] theorem wakeUp_h (s : State) : (wakeUp s).h = s.h := rfl
@[simp] theorem wakeUp_l (s : State) : (wakeUp s).l = s.l := rfl
@[simp] theorem wakeUp_f (s : State) : (wakeUp s).f = s.f := rfl
@[simp] theorem wakeUp_sp (s : State) : (wakeUp s).sp = s.sp := rfl
@[simp] theorem wakeUp_pc (s : State) : (wakeUp s).pc = s.pc := rfl
@[simp] theorem wakeUp_ime (s : State) : (wakeUp s).ime = s.ime := rfl
@[simp] theorem wakeUp_imeDelay (s : State) : (wakeUp s).imeDelay = s.imeDelay := rfl
@[simp] theorem wakeUp_halted (s : State) : (wakeUp s).halted = (s.halted && decide (pending s = 0)) := rfl
@[simp] theorem wakeUp_instrCount (s : State) : (wakeUp s).instrCount = s.instrCount := rfl
@[simp] theorem wakeUp_timerEnabled (s : State) : (wakeUp s).timerEnabled = s.timerEnabled := rfl
@[simp] theorem wakeUp_timaRate (s : State) : (wakeUp s).timaRate = s.timaRate := rfl
@[simp] theorem wakeUp_doubleSpeed (s : State) : (wakeUp s).doubleSpeed = s.doubleSpeed := rfl
@[simp] theorem wakeUp_div (s : State) : (wakeUp s).div = s.div := rfl
@[simp] theorem wakeUp_tima (s : State) : (wakeUp s).tima = s.tima := rfl
@[simp] theorem wakeUp_tma (s : State) : (wakeUp s).tma = s.tma := rfl
@[simp] theorem wakeUp_tac (s : State) : (wakeUp s).tac = s.tac := rfl
@[simp] theorem wakeUp_ifReg (s : State) : (wakeUp s).ifReg = s.ifReg := rfl
@[simp] theorem wakeUp_lcdc (s : State) : (wakeUp s).lcdc = s.lcdc := rfl
@[simp] theorem wakeUp_stat (s : State) : (wakeUp s).stat = s.stat := rfl
@[simp] theorem wakeUp_ly (s : State) : (wakeUp s).ly = s.ly := rfl
@[simp] theorem wakeUp_lyc (s : State) : (wakeUp s).lyc = s.lyc := rfl
@[simp] theorem wakeUp_ieReg (s : State) : (wakeUp s).ieReg = s.ieReg := rfl
@[simp] theorem wakeUp_io (s : State) : (wakeUp s).io = s.io := rfl
@[simp] theorem wakeUp_wram (s : State) : (wakeUp s).wram = s.wram := rfl
@[simp] theorem wakeUp_wramBank (s : State) : (wakeUp s).wramBank = s.wramBank := rfl
@[simp] theorem wakeUp_oam (s : State) : (wakeUp s).oam = s.oam := rfl
@[simp] theorem wakeUp_rom (s : State) : (wakeUp s).rom = s.rom := rfl
@[simp] theorem wakeUp_cram (s : State) : (wakeUp s).cram = s.cram := rfl
@[simp] theorem wakeUp_vram (s : State) : (wakeUp s).vram = s.vram := rfl
@[simp] theorem wakeUp_cartState (s : State) : (wakeUp s).cartState = s.cartState := rfl
@[simp] theorem wakeUp_dispState (s : State) : (wakeUp s).dispState = s.dispState := rfl
@[simp] theorem wakeUp_ioInput (s : State) : (wakeUp s).ioInput = s.ioInput := rfl
@[simp] theorem wakeUp_events (s : State) : (wakeUp s).events = s.events := rfl
@[simp] theorem wakeUp_frameComposed (s : State) : (wakeUp s).frameComposed = s.frameComposed := rfl
@[simp] theorem wakeUp_frameHold (s : State) : (wakeUp s).frameHold = s.frameHold := rfl
@[simp] theorem wakeUp_terminate (s : State) : (wakeUp s).terminate = s.terminate := rfl
@[simp] theorem wakeUp_params (s : State) : (wakeUp s).params = s.params := rfl

/-! ### countStep -/

@[simp] theorem countStep_a (s : State) : (countStep s).a = s.a := rfl
@[simp] theorem countStep_b (s : State) : (countStep s).b = s.b := rfl
@[simp] theorem countStep_c (s : State) : (countStep s).c = s.c := rfl
@[simp] theorem countStep_d (s : State) : (countStep s).d = s.d := rfl
@[simp] theorem countStep_e (s : State) : (countStep s).e = s.e := rfl
@[simp] theorem countStep_h (s : State) : (countStep s).h = s.h := rfl
@[simp] theorem countStep_l (s : State) : (countStep s).l = s.l := rfl
@[simp] theorem countStep_f (s : State) : (countStep s).f = s.f := rfl
@[simp] theorem countStep_sp (s : State) : (countStep s).sp = s.sp := rfl
@[simp] theorem countStep_pc (s : State) : (countStep s).pc = s.pc := rfl
@[simp] theorem countStep_ime (s : State) : (countStep s).ime = s.ime := rfl
@[simp] theorem countStep_imeDelay (s : State) : (countStep s).imeDelay = s.imeDelay := rfl
@[simp] theorem countStep_halted (s : State) : (countStep s).halted = s.halted := rfl
@[simp] theorem countStep_instrCount (s : State) : (countStep s).instrCount = s.instrCount + 1 := rfl
@[simp] theorem countStep_timerEnabled (s : State) : (countStep s).timerEnabled = s.timerEnabled := rfl
@[simp] theorem countStep_timaRate (s : State) : (countStep s).timaRate = s.timaRate := rfl
@[simp] theorem countStep_doubleSpeed (s : State) : (countStep s).doubleSpeed = s.doubleSpeed := rfl
@[simp] theorem countStep_div (s : State) : (countStep s).div = s.div := rfl
@[simp] theorem countStep_tima (s : State) : (countStep s).tima = s.tima := rfl
@[simp] theorem countStep_tma (s : State) : (countStep s).tma = s.tma := rfl
@[simp] theorem countStep_tac (s : State) : (countStep s).tac = s.tac := rfl
@[simp] theorem countStep_ifReg (s : State) : (countStep s).ifReg = s.ifReg := rfl
@[simp] theorem countStep_lcdc (s : State) : (countStep s).lcdc = s.lcdc := rfl
@[simp] theorem countStep_stat (s : State) : (countStep s).stat = s.stat := rfl
@[simp] theorem countStep_ly (s : State) : (countStep s).ly = s.ly := rfl
@[simp] theorem countStep_lyc (s : State) : (countStep s).lyc = s.lyc := rfl
@[simp] theorem countStep_ieReg (s : State) : (countStep s).ieReg = s.ieReg := rfl
@[simp] theorem countStep_io (s : State) : (countStep s).io = s.io := rfl
@[simp] theorem countStep_wram (s : State) : (countStep s).wram = s.wram := rfl
@[simp] theorem countStep_wramBank (s : State) : (countStep s).wramBank = s.wramBank := rfl
@[simp] theorem countStep_oam (s : State) : (countStep s).oam = s.oam := rfl
@[simp] theorem countStep_rom (s : State) : (countStep s).rom = s.rom := rfl
@[simp] theorem countStep_cram (s : State) : (countStep s).cram = s.cram := rfl
@[simp] theorem countStep_vram (s : State) : (countStep s).vram = s.vram := rfl
@[simp] theorem countStep_cartState (s : State) : (countStep s).cartState = s.cartState := rfl
@[simp] theorem countStep_dispState (s : State) : (countStep s).dispState = s.dispState := rfl
@[simp] theorem countStep_ioInput (s : State) : (countStep s).ioInput = s.ioInput := rfl
@[simp] theorem countStep_events (s : State) : (countStep s).events = s.events := rfl
@[simp] theorem countStep_frameComposed (s : State) : (countStep s).frameComposed = s.frameComposed := rfl
@[simp] theorem countStep_frameHold (s : State) : (countStep s).frameHold = s.frameHold := rfl
@[simp] theorem countStep_terminate (s : State) : (countStep s).terminate = s.terminate := rfl
@[simp] theorem countStep_params (s : State) : (countStep s).params = s.params := rfl

/-! ### dividerTick -/

@[simp] theorem dividerTick_a (s : State) : (dividerTick s).a = s.a := rfl
@[simp] theorem dividerTick_b (s : State) : (dividerTick s).b = s.b := rfl
@[simp] theorem dividerTick_c (s : State) : (dividerTick s).c = s.c := rfl
@[simp] theorem dividerTick_d (s : State) : (dividerTick s).d = s.d := rfl
@[simp] theorem dividerTick_e (s : State) : (dividerTick s).e = s.e := rfl
@[simp] theorem dividerTick_h (s : State) : (dividerTick s).h = s.h := rfl
@[simp] theorem dividerTick_l (s : State) : (dividerTick s).l = s.l := rfl
@[simp] theorem dividerTick_f (s : State) : (dividerTick s).f = s.f := rfl
@[simp] theorem dividerTick_sp (s : State) : (dividerTick s).sp = s.sp := rfl
@[simp] theorem dividerTick_pc (s : State) : (dividerTick s).pc = s.pc := rfl
@[simp] theorem dividerTick_ime (s : State) : (dividerTick s).ime = s.ime := rfl
@[simp] theorem dividerTick_imeDelay (s : State) : (dividerTick s).imeDelay = s.imeDelay := rfl
@[simp] theorem dividerTick_halted (s : State) : (dividerTick s).halted = s.halted := rfl
@[simp] theorem dividerTick_instrCount (s : State) : (dividerTick s).instrCount = s.instrCount := rfl
@[simp] theorem dividerTick_timerEnabled (s : State) : (dividerTick s).timerEnabled = s.timerEnabled := rfl
@[simp] theorem dividerTick_timaRate (s : State) : (dividerTick s).timaRate = s.timaRate := rfl
@[simp] theorem dividerTick_doubleSpeed (s : State) : (dividerTick s).doubleSpeed = s.doubleSpeed := rfl
@[simp] theorem dividerTick_div (s : State) : (dividerTick s).div = if fires s.params.nDiv s then s.div + 1 else s.div := rfl
@[simp] theorem dividerTick_tima (s : State) : (dividerTick s).tima = s.tima := rfl
@[simp] theorem dividerTick_tma (s : State) : (dividerTick s).tma = s.tma := rfl
@[simp] theorem dividerTick_tac (s : State) : (dividerTick s).tac = s.tac := rfl
@[simp] theorem dividerTick_ifReg (s : State) : (dividerTick s).ifReg = s.ifReg := rfl
@[simp] theorem dividerTick_lcdc (s : State) : (dividerTick s).lcdc = s.lcdc := rfl
@[simp] theorem dividerTick_stat (s : State) : (dividerTick s).stat = s.stat := rfl
@[simp] theorem dividerTick_ly (s : State) : (dividerTick s).ly = s.ly := rfl
@[simp] theorem dividerTick_lyc (s : State) : (dividerTick s).lyc = s.lyc := rfl
@[simp] theorem dividerTick_ieReg (s : State) : (dividerTick s).ieReg = s.ieReg := rfl
@[simp] theorem dividerTick_io (s : State) : (dividerTick s).io = s.io := rfl
@[simp] theorem dividerTick_wram (s : State) : (dividerTick s).wram = s.wram := rfl
@[simp] theorem dividerTick_wramBank (s : State) : (dividerTick s).wramBank = s.wramBank := rfl
@[simp] theorem dividerTick_oam (s : State) : (dividerTick s).oam = s.oam := rfl
@[simp] theorem dividerTick_rom (s : State) : (dividerTick s).rom = s.rom := rfl
@[simp] theorem dividerTick_cram (s : State) : (dividerTick s).cram = s.cram := rfl
@[simp] theorem dividerTick_vram (s : State) : (dividerTick s).vram = s.vram := rfl
@[simp] theorem dividerTick_cartState (s : State) : (dividerTick s).cartState = s.cartState := rfl
@[simp] theorem dividerTick_dispState (s : State) : (dividerTick s).dispState = s.dispState := rfl
@[simp] theorem dividerTick_ioInput (s : State) : (dividerTick s).ioInput = s.ioInput := rfl
@[simp] theorem dividerTick_events (s : State) : (dividerTick s).events = s.events := rfl
@[simp] theorem dividerTick_frameComposed (s : State) : (dividerTick s).frameComposed = s.frameComposed := rfl
@[simp] theorem dividerTick_frameHold (s : State) : (dividerTick s).frameHold = s.frameHold := rfl
@[simp] theorem dividerTick_terminate (s : State) : (dividerTick s).terminate = s.terminate := rfl
@[simp] theorem dividerTick_params (s : State) : (dividerTick s).params = s.params := rfl

/-! ### timerTick -/

@[simp] theorem timerTick_a (s : State) : (timerTick s).a = s.a := rfl
@[simp] theorem timerTick_b (s : State) : (timerTick s).b = s.b := rfl
@[simp] theorem timerTick_c (s : State) : (timerTick s).c = s.c := rfl
@[simp] theorem timerTick_d (s : State) : (timerTick s).d = s.d := rfl
@[simp] theorem timerTick_e (s : State) : (timerTick s).e = s.e := rfl
@[simp] theorem timerTick_h (s : State) : (timerTick s).h = s.h := rfl
@[simp] theorem timerTick_l (s : State) : (timerTick s).l = s.l := rfl
@[simp] theorem timerTick_f (s : State) : (timerTick s).f = s.f := rfl
@[simp] theorem timerTick_sp (s : State) : (timerTick s).sp = s.sp := rfl
@[simp] theorem timerTick_pc (s : State) : (timerTick s).pc = s.pc := rfl
@[simp] theorem timerTick_ime (s : State) : (timerTick s).ime = s.ime := rfl
@[simp] theorem timerTick_imeDelay (s : State) : (timerTick s).imeDelay = s.imeDelay := rfl
@[simp] theorem timerTick_halted (s : State) : (timerTick s).halted = s.halted := rfl
@[simp] theorem timerTick_instrCount (s : State) : (timerTick s).instrCount = s.instrCount := rfl
@[simp] theorem timerTick_timerEnabled (s : State) : (timerTick s).timerEnabled = s.timerEnabled := rfl
@[simp] theorem timerTick_timaRate (s : State) : (timerTick s).timaRate = s.timaRate := rfl
@[simp] theorem timerTick_doubleSpeed (s : State) : (timerTick s).doubleSpeed = s.doubleSpeed := rfl
@[simp] theorem timerTick_div (s : State) : (timerTick s).div = s.div := rfl
@[simp] theorem timerTick_tma (s : State) : (timerTick s).tma = s.tma := rfl
@[simp] theorem timerTick_tac (s : State) : (timerTick s).tac = s.tac := rfl
@[simp] theorem timerTick_lcdc (s : State) : (timerTick s).lcdc = s.lcdc := rfl
@[simp] theorem timerTick_stat (s : State) : (timerTick s).stat = s.stat := rfl
@[simp] theorem timerTick_ly (s : State) : (timerTick s).ly = s.ly := rfl
@[simp] theorem timerTick_lyc (s : State) : (timerTick s).lyc = s.lyc := rfl
@[simp] theorem timerTick_ieReg (s : State) : (timerTick s).ieReg = s.ieReg := rfl
@[simp] theorem timerTick_io (s : State) : (timerTick s).io = s.io := rfl
@[simp] theorem timerTick_wram (s : State) : (timerTick s).wram = s.wram := rfl
@[simp] theorem timerTick_wramBank (s : State) : (timerTick s).wramBank = s.wramBank := rfl
@[simp] theorem timerTick_oam (s : State) : (timerTick s).oam = s.oam := rfl
@[simp] theorem timerTick_rom (s : State) : (timerTick s).rom = s.rom := rfl
@[simp] theorem timerTick_cram (s : State) : (timerTick s).cram = s.cram := rfl
@[simp] theorem timerTick_vram (s : State) : (timerTick s).vram = s.vram := rfl
@[simp] theorem timerTick_cartState (s : State) : (timerTick s).cartState = s.cartState := rfl
@[simp] theorem timerTick_dispState (s : State) : (timerTick s).dispState = s.dispState := rfl
@[simp] theorem timerTick_ioInput (s : State) : (timerTick s).ioInput = s.ioInput := rfl
@[simp] theorem timerTick_events (s : State) : (timerTick s).events = s.events := rfl
@[simp] theorem timerTick_frameComposed (s : State) : (timerTick s).frameComposed = s.frameComposed := rfl
@[simp] theorem timerTick_frameHold (s : State) : (timerTick s).frameHold = s.frameHold := rfl
@[simp] theorem timerTick_terminate (s : State) : (timerTick s).terminate = s.terminate := rfl
@[simp] theorem timerTick_params (s : State) : (timerTick s).params = s.params := rfl

/-! ### scanlineTick -/

@[simp] theorem scanlineTick_a (s : State) : (scanlineTick s).a = s.a := rfl
@[simp] theorem scanlineTick_b (s : State) : (scanlineTick s).b = s.b := rfl
@[simp] theorem scanlineTick_c (s : State) : (scanlineTick s).c = s.c := rfl
@[simp] theorem scanlineTick_d (s : State) : (scanlineTick s).d = s.d := rfl
@[simp] theorem scanlineTick_e (s : State) : (scanlineTick s).e = s.e := rfl
@[simp] theorem scanlineTick_h (s : State) : (scanlineTick s).h = s.h := rfl
@[simp] theorem scanlineTick_l (s : State) : (scanlineTick s).l = s.l := rfl
@[simp] theorem scanlineTick_f (s : State) : (scanlineTick s).f = s.f := rfl
@[simp] theorem scanlineTick_sp (s : State) : (scanlineTick s).sp = s.sp := rfl
@[simp] theorem scanlineTick_pc (s : State) : (scanlineTick s).pc = s.pc := rfl
@[simp] theorem scanlineTick_ime (s : State) : (scanlineTick s).ime = s.ime := rfl
@[simp] theorem scanlineTick_imeDelay (s : State) : (scanlineTick s).imeDelay = s.imeDelay := rfl
@[simp] theorem scanlineTick_halted (s : State) : (scanlineTick s).halted = s.halted := rfl
@[simp] theorem scanlineTick_instrCount (s : State) : (scanlineTick s).instrCount = s.instrCount := rfl
@[simp] theorem scanlineTick_timerEnabled (s : State) : (scanlineTick s).timerEnabled = s.timerEnabled := rfl
@[simp] theorem scanlineTick_timaRate (s : State) : (scanlineTick s).timaRate = s.timaRate := rfl
@[simp] theorem scanlineTick_doubleSpeed (s : State) : (scanlineTick s).doubleSpeed = s.doubleSpeed := rfl
@[simp] theorem scanlineTick_div (s : State) : (scanlineTick s).div = s.div := rfl
@[simp] theorem scanlineTick_tima (s : State) : (scanlineTick s).tima = s.tima := rfl
@[simp] theorem scanlineTick_tma (s : State) : (scanlineTick s).tma = s.tma := rfl
@[simp] theorem scanlineTick_tac (s : State) : (scanlineTick s).tac = s.tac := rfl
@[simp] theorem scanlineTick_lcdc (s : State) : (scanlineTick s).lcdc = s.lcdc := rfl
@[simp] theorem scanlineTick_stat (s : State) : (scanlineTick s).stat = s.stat := rfl
@[simp] theorem scanlineTick_lyc (s : State) : (scanlineTick s).lyc = s.lyc := rfl
@[simp] theorem scanlineTick_ieReg (s : State) : (scanlineTick s).ieReg = s.ieReg := rfl
@[simp] theorem scanlineTick_io (s : State) : (scanlineTick s).io = s.io := rfl
@[simp] theorem scanlineTick_wram (s : State) : (scanlineTick s).wram = s.wram := rfl
@[simp] theorem scanlineTick_wramBank (s : State) : (scanlineTick s).wramBank = s.wramBank := rfl
@[simp] theorem scanlineTick_oam (s : State) : (scanlineTick s).oam = s.oam := rfl
@[simp] theorem scanlineTick_rom (s : State) : (scanlineTick s).rom = s.rom := rfl
@[simp] theorem scanlineTick_cram (s : State) : (scanlineTick s).cram = s.cram := rfl
@[simp] theorem scanlineTick_vram (s : State) : (scanlineTick s).vram = s.vram := rfl
@[simp] theorem scanlineTick_cartState (s : State) : (scanlineTick s).cartState = s.cartState := rfl
@[simp] theorem scanlineTick_dispState (s : State) : (scanlineTick s).dispState = s.dispState := rfl
@[simp] theorem scanlineTick_ioInput (s : State) : (scanlineTick s).ioInput = s.ioInput := rfl
@[simp] theorem scanlineTick_frameComposed (s : State) : (scanlineTick s).frameComposed = s.frameComposed := rfl
@[simp] theorem scanlineTick_terminate (s : State) : (scanlineTick s).terminate = s.terminate := rfl
@[simp] theorem scanlineTick_params (s : State) : (scanlineTick s).params = s.params := rfl

/-! ### returnFromInterrupt -/

@[simp] theorem returnFromInterrupt_a (s : State) : (returnFromInterrupt s).a = s.a := rfl
@[simp] theorem returnFromInterrupt_b (s : State) : (returnFromInterrupt s).b = s.b := rfl
@[simp] theorem returnFromInterrupt_c (s : State) : (returnFromInterrupt s).c = s.c := rfl
@[simp] theorem returnFromInterrupt_d (s : State) : (returnFromInterrupt s).d = s.d := rfl
@[simp] theorem returnFromInterrupt_e (s : State) : (returnFromInterrupt s).e = s.e := rfl
@[simp] theorem returnFromInterrupt_h (s : State) : (returnFromInterrupt s).h = s.h := rfl
@[simp] theorem returnFromInterrupt_l (s : State) : (returnFromInterrupt s).l = s.l := rfl
@[simp] theorem returnFromInterrupt_f (s : State) : (returnFromInterrupt s).f = s.f := rfl
@[simp] theorem returnFromInterrupt_sp (s : State) : (returnFromInterrupt s).sp = s.sp + 2 := rfl
@[simp] theorem returnFromInterrupt_pc (s : State) : (returnFromInterrupt s).pc = popped s := rfl
@[simp] theorem returnFromInterrupt_ime (s : State) : (returnFromInterrupt s).ime = if s.params.retiDelayed then s.ime else true := rfl
@[simp] theorem returnFromInterrupt_imeDelay (s : State) : (returnFromInterrupt s).imeDelay = if s.params.retiDelayed then .armed else .inactive := rfl
@[simp] theorem returnFromInterrupt_halted (s : State) : (returnFromInterrupt s).halted = s.halted := rfl
@[simp] theorem returnFromInterrupt_instrCount (s : State) : (returnFromInterrupt s).instrCount = s.instrCount := rfl
@[simp] theorem returnFromInterrupt_timerEnabled (s : State) : (returnFromInterrupt s).timerEnabled = s.timerEnabled := rfl
@[simp] theorem returnFromInterrupt_timaRate (s : State) : (returnFromInterrupt s).timaRate = s.timaRate := rfl
@[simp] theorem returnFromInterrupt_doubleSpeed (s : State) : (returnFromInterrupt s).doubleSpeed = s.doubleSpeed := rfl
@[simp] theorem returnFromInterrupt_div (s : State) : (returnFromInterrupt s).div = s.div := rfl
@[simp] theorem returnFromInterrupt_tima (s : State) : (returnFromInterrupt s).tima = s.tima := rfl
@[simp] theorem returnFromInterrupt_tma (s : State) : (returnFromInterrupt s).tma = s.tma := rfl
@[simp] theorem returnFromInterrupt_tac (s : State) : (returnFromInterrupt s).tac = s.tac := rfl
@[simp] theorem returnFromInterrupt_ifReg (s : State) : (returnFromInterrupt s).ifReg = s.ifReg := rfl
@[simp] theorem returnFromInterrupt_lcdc (s : State) : (returnFromInterrupt s).lcdc = s.lcdc := rfl
@[simp] theorem returnFromInterrupt_stat (s : State) : (returnFromInterrupt s).stat = s.stat := rfl
@[simp] theorem returnFromInterrupt_ly (s : State) : (returnFromInterrupt s).ly = s.ly := rfl
@[simp] theorem returnFromInterrupt_lyc (s : State) : (returnFromInterrupt s).lyc = s.lyc := rfl
@[simp] theorem returnFromInterrupt_ieReg (s : State) : (returnFromInterrupt s).ieReg = s.ieReg := rfl
@[simp] theorem returnFromInterrupt_io (s : State) : (returnFromInterrupt s).io = s.io := rfl
@[simp] theorem returnFromInterrupt_wram (s : State) : (returnFromInterrupt s).wram = s.wram := rfl
@[simp] theorem returnFromInterrupt_wramBank (s : State) : (returnFromInterrupt s).wramBank = s.wramBank := rfl
@[simp] theorem returnFromInterrupt_oam (s : State) : (returnFromInterrupt s).oam = s.oam := rfl
@[simp] theorem returnFromInterrupt_rom (s : State) : (returnFromInterrupt s).rom = s.rom := rfl
@[simp] theorem returnFromInterrupt_cram (s : State) : (returnFromInterrupt s).cram = s.cram := rfl
@[simp] theorem returnFromInterrupt_vram (s : State) : (returnFromInterrupt s).vram = s.vram := rfl
@[simp] theorem returnFromInterrupt_cartState (s : State) : (returnFromInterrupt s).cartState = s.cartState := rfl
@[simp] theorem returnFromInterrupt_dispState (s : State) : (returnFromInterrupt s).dispState = s.dispState := rfl
@[simp] theorem returnFromInterrupt_ioInput (s : State) : (returnFromInterrupt s).ioInput = s.ioInput := rfl
@[simp] theorem returnFromInterrupt_events (s : State) : (returnFromInterrupt s).events = s.events := rfl
@[simp] theorem returnFromInterrupt_frameComposed (s : State) : (returnFromInterrupt s).frameComposed = s.frameComposed := rfl
@[simp] theorem returnFromInterrupt_frameHold (s : State) : (returnFromInterrupt s).frameHold = s.frameHold := rfl
@[simp] theorem returnFromInterrupt_terminate (s : State) : (returnFromInterrupt s).terminate = s.terminate := rfl
@[simp] theorem returnFromInterrupt_params (s : State) : (returnFromInterrupt s).params = s.params := rfl

end Sys2Proof.Machine
end

