-- ==== Sys2Proof/Laws/Bus.lean ====
section
/-! SUPPORT. The bus and the operand writes: which fields of the state each leaves alone (20_memory.md R63: "A write
changes nothing but what its case names"), and what a byte reads as after the I/O block is written. -/

namespace Sys2Proof.Machine

/-! ### cartWrite: what it leaves alone -/

@[simp] theorem cartWrite_a (a : Word) (v : Byte) (s : State) : (cartWrite a v s).a = s.a := rfl
@[simp] theorem cartWrite_b (a : Word) (v : Byte) (s : State) : (cartWrite a v s).b = s.b := rfl
@[simp] theorem cartWrite_c (a : Word) (v : Byte) (s : State) : (cartWrite a v s).c = s.c := rfl
@[simp] theorem cartWrite_d (a : Word) (v : Byte) (s : State) : (cartWrite a v s).d = s.d := rfl
@[simp] theorem cartWrite_e (a : Word) (v : Byte) (s : State) : (cartWrite a v s).e = s.e := rfl
@[simp] theorem cartWrite_h (a : Word) (v : Byte) (s : State) : (cartWrite a v s).h = s.h := rfl
@[simp] theorem cartWrite_l (a : Word) (v : Byte) (s : State) : (cartWrite a v s).l = s.l := rfl
@[simp] theorem cartWrite_f (a : Word) (v : Byte) (s : State) : (cartWrite a v s).f = s.f := rfl
@[simp] theorem cartWrite_sp (a : Word) (v : Byte) (s : State) : (cartWrite a v s).sp = s.sp := rfl
@[simp] theorem cartWrite_pc (a : Word) (v : Byte) (s : State) : (cartWrite a v s).pc = s.pc := rfl
@[simp] theorem cartWrite_ime (a : Word) (v : Byte) (s : State) : (cartWrite a v s).ime = s.ime := rfl
@[simp] theorem cartWrite_imeDelay (a : Word) (v : Byte) (s : State) : (cartWrite a v s).imeDelay = s.imeDelay := rfl
@[simp] theorem cartWrite_halted (a : Word) (v : Byte) (s : State) : (cartWrite a v s).halted = s.halted := rfl
@[simp] theorem cartWrite_instrCount (a : Word) (v : Byte) (s : State) : (cartWrite a v s).instrCount = s.instrCount := rfl
@[simp] theorem cartWrite_timerEnabled (a : Word) (v : Byte) (s : State) : (cartWrite a v s).timerEnabled = s.timerEnabled := rfl
@[simp] theorem cartWrite_timaRate (a : Word) (v : Byte) (s : State) : (cartWrite a v s).timaRate = s.timaRate := rfl
@[simp] theorem cartWrite_doubleSpeed (a : Word) (v : Byte) (s : State) : (cartWrite a v s).doubleSpeed = s.doubleSpeed := rfl
@[simp] theorem cartWrite_div (a : Word) (v : Byte) (s : State) : (cartWrite a v s).div = s.div := rfl
@[simp] theorem cartWrite_tima (a : Word) (v : Byte) (s : State) : (cartWrite a v s).tima = s.tima := rfl
@[simp] theorem cartWrite_tma (a : Word) (v : Byte) (s : State) : (cartWrite a v s).tma = s.tma := rfl
@[simp] theorem cartWrite_tac (a : Word) (v : Byte) (s : State) : (cartWrite a v s).tac = s.tac := rfl
@[simp] theorem cartWrite_ifReg (a : Word) (v : Byte) (s : State) : (cartWrite a v s).ifReg = s.ifReg := rfl
@[simp] theorem cartWrite_lcdc (a : Word) (v : Byte) (s : State) : (cartWrite a v s).lcdc = s.lcdc := rfl
@[simp] theorem cartWrite_stat (a : Word) (v : Byte) (s : State) : (cartWrite a v s).stat = s.stat := rfl
@[simp] theorem cartWrite_ly (a : Word) (v : Byte) (s : State) : (cartWrite a v s).ly = s.ly := rfl
@[simp] theorem cartWrite_lyc (a : Word) (v : Byte) (s : State) : (cartWrite a v s).lyc = s.lyc := rfl
@[simp] theorem cartWrite_ieReg (a : Word) (v : Byte) (s : State) : (cartWrite a v s).ieReg = s.ieReg := rfl
@[simp] theorem cartWrite_io (a : Word) (v : Byte) (s : State) : (cartWrite a v s).io = s.io := rfl
@[simp] theorem cartWrite_wram (a : Word) (v : Byte) (s : State) : (cartWrite a v s).wram = s.wram := rfl
@[simp] theorem cartWrite_wramBank (a : Word) (v : Byte) (s : State) : (cartWrite a v s).wramBank = s.wramBank := rfl
@[simp] theorem cartWrite_oam (a : Word) (v : Byte) (s : State) : (cartWrite a v s).oam = s.oam := rfl
@[simp] theorem cartWrite_rom (a : Word) (v : Byte) (s : State) : (cartWrite a v s).rom = s.rom := rfl
@[simp] theorem cartWrite_vram (a : Word) (v : Byte) (s : State) : (cartWrite a v s).vram = s.vram := rfl
@[simp] theorem cartWrite_dispState (a : Word) (v : Byte) (s : State) : (cartWrite a v s).dispState = s.dispState := rfl
@[simp] theorem cartWrite_ioInput (a : Word) (v : Byte) (s : State) : (cartWrite a v s).ioInput = s.ioInput := rfl
@[simp] theorem cartWrite_events (a : Word) (v : Byte) (s : State) : (cartWrite a v s).events = s.events := rfl
@[simp] theorem cartWrite_frameComposed (a : Word) (v : Byte) (s : State) : (cartWrite a v s).frameComposed = s.frameComposed := rfl
@[simp] theorem cartWrite_frameHold (a : Word) (v : Byte) (s : State) : (cartWrite a v s).frameHold = s.frameHold := rfl
@[simp] theorem cartWrite_terminate (a : Word) (v : Byte) (s : State) : (cartWrite a v s).terminate = s.terminate := rfl
@[simp] theorem cartWrite_params (a : Word) (v : Byte) (s : State) : (cartWrite a v s).params = s.params := rfl

/-! ### displayWrite: what it leaves alone -/

@[simp] theorem displayWrite_a (o : Word) (v : Byte) (s : State) : (displayWrite o v s).a = s.a := rfl
@[simp] theorem displayWrite_b (o : Word) (v : Byte) (s : State) : (displayWrite o v s).b = s.b := rfl
@[simp] theorem displayWrite_c (o : Word) (v : Byte) (s : State) : (displayWrite o v s).c = s.c := rfl
@[simp] theorem displayWrite_d (o : Word) (v : Byte) (s : State) : (displayWrite o v s).d = s.d := rfl
@[simp] theorem displayWrite_e (o : Word) (v : Byte) (s : State) : (displayWrite o v s).e = s.e := rfl
@[simp] theorem displayWrite_h (o : Word) (v : Byte) (s : State) : (displayWrite o v s).h = s.h := rfl
@[simp] theorem displayWrite_l (o : Word) (v : Byte) (s : State) : (displayWrite o v s).l = s.l := rfl
@[simp] theorem displayWrite_f (o : Word) (v : Byte) (s : State) : (displayWrite o v s).f = s.f := rfl
@[simp] theorem displayWrite_sp (o : Word) (v : Byte) (s : State) : (displayWrite o v s).sp = s.sp := rfl
@[simp] theorem displayWrite_pc (o : Word) (v : Byte) (s : State) : (displayWrite o v s).pc = s.pc := rfl
@[simp] theorem displayWrite_ime (o : Word) (v : Byte) (s : State) : (displayWrite o v s).ime = s.ime := rfl
@[simp] theorem displayWrite_imeDelay (o : Word) (v : Byte) (s : State) : (displayWrite o v s).imeDelay = s.imeDelay := rfl
@[simp] theorem displayWrite_halted (o : Word) (v : Byte) (s : State) : (displayWrite o v s).halted = s.halted := rfl
@[simp] theorem displayWrite_instrCount (o : Word) (v : Byte) (s : State) : (displayWrite o v s).instrCount = s.instrCount := rfl
@[simp] theorem displayWrite_timerEnabled (o : Word) (v : Byte) (s : State) : (displayWrite o v s).timerEnabled = s.timerEnabled := rfl
@[simp] theorem displayWrite_timaRate (o : Word) (v : Byte) (s : State) : (displayWrite o v s).timaRate = s.timaRate := rfl
@[simp] theorem displayWrite_doubleSpeed (o : Word) (v : Byte) (s : State) : (displayWrite o v s).doubleSpeed = s.doubleSpeed := rfl
@[simp] theorem displayWrite_div (o : Word) (v : Byte) (s : State) : (displayWrite o v s).div = s.div := rfl
@[simp] theorem displayWrite_tima (o : Word) (v : Byte) (s : State) : (displayWrite o v s).tima = s.tima := rfl
@[simp] theorem displayWrite_tma (o : Word) (v : Byte) (s : State) : (displayWrite o v s).tma = s.tma := rfl
@[simp] theorem displayWrite_tac (o : Word) (v : Byte) (s : State) : (displayWrite o v s).tac = s.tac := rfl
@[simp] theorem displayWrite_ifReg (o : Word) (v : Byte) (s : State) : (displayWrite o v s).ifReg = s.ifReg := rfl
@[simp] theorem displayWrite_lcdc (o : Word) (v : Byte) (s : State) : (displayWrite o v s).lcdc = s.lcdc := rfl
@[simp] theorem displayWrite_stat (o : Word) (v : Byte) (s : State) : (displayWrite o v s).stat = s.stat := rfl
@[simp] theorem displayWrite_ly (o : Word) (v : Byte) (s : State) : (displayWrite o v s).ly = s.ly := rfl
@[simp] theorem displayWrite_lyc (o : Word) (v : Byte) (s : State) : (displayWrite o v s).lyc = s.lyc := rfl
@[simp] theorem displayWrite_ieReg (o : Word) (v : Byte) (s : State) : (displayWrite o v s).ieReg = s.ieReg := rfl
@[simp] theorem displayWrite_io (o : Word) (v : Byte) (s : State) : (displayWrite o v s).io = s.io := rfl
@[simp] theorem displayWrite_wram (o : Word) (v : Byte) (s : State) : (displayWrite o v s).wram = s.wram := rfl
@[simp] theorem displayWrite_wramBank (o : Word) (v : Byte) (s : State) : (displayWrite o v s).wramBank = s.wramBank := rfl
@[simp] theorem displayWrite_oam (o : Word) (v : Byte) (s : State) : (displayWrite o v s).oam = s.oam := rfl
@[simp] theorem displayWrite_rom (o : Word) (v : Byte) (s : State) : (displayWrite o v s).rom = s.rom := rfl
@[simp] theorem displayWrite_cram (o : Word) (v : Byte) (s : State) : (displayWrite o v s).cram = s.cram := rfl
@[simp] theorem displayWrite_cartState (o : Word) (v : Byte) (s : State) : (displayWrite o v s).cartState = s.cartState := rfl
@[simp] theorem displayWrite_ioInput (o : Word) (v : Byte) (s : State) : (displayWrite o v s).ioInput = s.ioInput := rfl
@[simp] theorem displayWrite_events (o : Word) (v : Byte) (s : State) : (displayWrite o v s).events = s.events := rfl
@[simp] theorem displayWrite_frameComposed (o : Word) (v : Byte) (s : State) : (displayWrite o v s).frameComposed = s.frameComposed := rfl
@[simp] theorem displayWrite_frameHold (o : Word) (v : Byte) (s : State) : (displayWrite o v s).frameHold = s.frameHold := rfl
@[simp] theorem displayWrite_terminate (o : Word) (v : Byte) (s : State) : (displayWrite o v s).terminate = s.terminate := rfl
@[simp] theorem displayWrite_params (o : Word) (v : Byte) (s : State) : (displayWrite o v s).params = s.params := rfl

/-! ### ioSet: what it leaves alone -/

@[simp] theorem ioSet_a (o v : Byte) (s : State) : (ioSet o v s).a = s.a := rfl
@[simp] theorem ioSet_b (o v : Byte) (s : State) : (ioSet o v s).b = s.b := rfl
@[simp] theorem ioSet_c (o v : Byte) (s : State) : (ioSet o v s).c = s.c := rfl
@[simp] theorem ioSet_d (o v : Byte) (s : State) : (ioSet o v s).d = s.d := rfl
@[simp] theorem ioSet_e (o v : Byte) (s : State) : (ioSet o v s).e = s.e := rfl
@[simp] theorem ioSet_h (o v : Byte) (s : State) : (ioSet o v s).h = s.h := rfl
@[simp] theorem ioSet_l (o v : Byte) (s : State) : (ioSet o v s).l = s.l := rfl
@[simp] theorem ioSet_f (o v : Byte) (s : State) : (ioSet o v s).f = s.f := rfl
@[simp] theorem ioSet_sp (o v : Byte) (s : State) : (ioSet o v s).sp = s.sp := rfl
@[simp] theorem ioSet_pc (o v : Byte) (s : State) : (ioSet o v s).pc = s.pc := rfl
@[simp] theorem ioSet_ime (o v : Byte) (s : State) : (ioSet o v s).ime = s.ime := rfl
@[simp] theorem ioSet_imeDelay (o v : Byte) (s : State) : (ioSet o v s).imeDelay = s.imeDelay := rfl
@[simp] theorem ioSet_halted (o v : Byte) (s : State) : (ioSet o v s).halted = s.halted := rfl
@[simp] theorem ioSet_instrCount (o v : Byte) (s : State) : (ioSet o v s).instrCount = s.instrCount := rfl
@[simp] theorem ioSet_timerEnabled (o v : Byte) (s : State) : (ioSet o v s).timerEnabled = s.timerEnabled := rfl
@[simp] theorem ioSet_timaRate (o v : Byte) (s : State) : (ioSet o v s).timaRate = s.timaRate := rfl
@[simp] theorem ioSet_doubleSpeed (o v : Byte) (s : State) : (ioSet o v s).doubleSpeed = s.doubleSpeed := rfl
@[simp] theorem ioSet_wram (o v : Byte) (s : State) : (ioSet o v s).wram = s.wram := rfl
@[simp] theorem ioSet_wramBank (o v : Byte) (s : State) : (ioSet o v s).wramBank = s.wramBank := rfl
@[simp] theorem ioSet_oam (o v : Byte) (s : State) : (ioSet o v s).oam = s.oam := rfl
@[simp] theorem ioSet_rom (o v : Byte) (s : State) : (ioSet o v s).rom = s.rom := rfl
@[simp] theorem ioSet_cram (o v : Byte) (s : State) : (ioSet o v s).cram = s.cram := rfl
@[simp] theorem ioSet_vram (o v : Byte) (s : State) : (ioSet o v s).vram = s.vram := rfl
@[simp] theorem ioSet_cartState (o v : Byte) (s : State) : (ioSet o v s).cartState = s.cartState := rfl
@[simp] theorem ioSet_dispState (o v : Byte) (s : State) : (ioSet o v s).dispState = s.dispState := rfl
@[simp] theorem ioSet_ioInput (o v : Byte) (s : State) : (ioSet o v s).ioInput = s.ioInput := rfl
@[simp] theorem ioSet_events (o v : Byte) (s : State) : (ioSet o v s).events = s.events := rfl
@[simp] theorem ioSet_frameComposed (o v : Byte) (s : State) : (ioSet o v s).frameComposed = s.frameComposed := rfl
@[simp] theorem ioSet_frameHold (o v : Byte) (s : State) : (ioSet o v s).frameHold = s.frameHold := rfl
@[simp] theorem ioSet_terminate (o v : Byte) (s : State) : (ioSet o v s).terminate = s.terminate := rfl
@[simp] theorem ioSet_params (o v : Byte) (s : State) : (ioSet o v s).params = s.params := rfl

/-! ### applyIoEffect: what it leaves alone -/

@[simp] theorem applyIoEffect_a (o : Byte) (e : IoEffect) (s : State) : (applyIoEffect o e s).a = s.a := rfl
@[simp] theorem applyIoEffect_b (o : Byte) (e : IoEffect) (s : State) : (applyIoEffect o e s).b = s.b := rfl
@[simp] theorem applyIoEffect_c (o : Byte) (e : IoEffect) (s : State) : (applyIoEffect o e s).c = s.c := rfl
@[simp] theorem applyIoEffect_d (o : Byte) (e : IoEffect) (s : State) : (applyIoEffect o e s).d = s.d := rfl
@[simp] theorem applyIoEffect_e (o : Byte) (e : IoEffect) (s : State) : (applyIoEffect o e s).e = s.e := rfl
@[simp] theorem applyIoEffect_h (o : Byte) (e : IoEffect) (s : State) : (applyIoEffect o e s).h = s.h := rfl
@[simp] theorem applyIoEffect_l (o : Byte) (e : IoEffect) (s : State) : (applyIoEffect o e s).l = s.l := rfl
@[simp] theorem applyIoEffect_f (o : Byte) (e : IoEffect) (s : State) : (applyIoEffect o e s).f = s.f := rfl
@[simp] theorem applyIoEffect_sp (o : Byte) (e : IoEffect) (s : State) : (applyIoEffect o e s).sp = s.sp := rfl
@[simp] theorem applyIoEffect_pc (o : Byte) (e : IoEffect) (s : State) : (applyIoEffect o e s).pc = s.pc := rfl
@[simp] theorem applyIoEffect_ime (o : Byte) (e : IoEffect) (s : State) : (applyIoEffect o e s).ime = s.ime := rfl
@[simp] theorem applyIoEffect_imeDelay (o : Byte) (e : IoEffect) (s : State) : (applyIoEffect o e s).imeDelay = s.imeDelay := rfl
@[simp] theorem applyIoEffect_halted (o : Byte) (e : IoEffect) (s : State) : (applyIoEffect o e s).halted = s.halted := rfl
@[simp] theorem applyIoEffect_instrCount (o : Byte) (e : IoEffect) (s : State) : (applyIoEffect o e s).instrCount = s.instrCount := rfl
@[simp] theorem applyIoEffect_doubleSpeed (o : Byte) (e : IoEffect) (s : State) : (applyIoEffect o e s).doubleSpeed = s.doubleSpeed := rfl
@[simp] theorem applyIoEffect_rom (o : Byte) (e : IoEffect) (s : State) : (applyIoEffect o e s).rom = s.rom := rfl
@[simp] theorem applyIoEffect_cram (o : Byte) (e : IoEffect) (s : State) : (applyIoEffect o e s).cram = s.cram := rfl
@[simp] theorem applyIoEffect_cartState (o : Byte) (e : IoEffect) (s : State) : (applyIoEffect o e s).cartState = s.cartState := rfl
@[simp] theorem applyIoEffect_ioInput (o : Byte) (e : IoEffect) (s : State) : (applyIoEffect o e s).ioInput = s.ioInput := rfl
@[simp] theorem applyIoEffect_events (o : Byte) (e : IoEffect) (s : State) : (applyIoEffect o e s).events = s.events := rfl
@[simp] theorem applyIoEffect_frameComposed (o : Byte) (e : IoEffect) (s : State) : (applyIoEffect o e s).frameComposed = s.frameComposed := rfl
@[simp] theorem applyIoEffect_frameHold (o : Byte) (e : IoEffect) (s : State) : (applyIoEffect o e s).frameHold = s.frameHold := rfl
@[simp] theorem applyIoEffect_terminate (o : Byte) (e : IoEffect) (s : State) : (applyIoEffect o e s).terminate = s.terminate := rfl
@[simp] theorem applyIoEffect_params (o : Byte) (e : IoEffect) (s : State) : (applyIoEffect o e s).params = s.params := rfl

/-! ### referenceIoWrite: what it leaves alone -/

@[simp] theorem referenceIoWrite_a (o v : Byte) (s : State) : (referenceIoWrite o v s).a = s.a := rfl
@[simp] theorem referenceIoWrite_b (o v : Byte) (s : State) : (referenceIoWrite o v s).b = s.b := rfl
@[simp] theorem referenceIoWrite_c (o v : Byte) (s : State) : (referenceIoWrite o v s).c = s.c := rfl
@[simp] theorem referenceIoWrite_d (o v : Byte) (s : State) : (referenceIoWrite o v s).d = s.d := rfl
@[simp] theorem referenceIoWrite_e (o v : Byte) (s : State) : (referenceIoWrite o v s).e = s.e := rfl
@[simp] theorem referenceIoWrite_h (o v : Byte) (s : State) : (referenceIoWrite o v s).h = s.h := rfl
@[simp] theorem referenceIoWrite_l (o v : Byte) (s : State) : (referenceIoWrite o v s).l = s.l := rfl
@[simp] theorem referenceIoWrite_f (o v : Byte) (s : State) : (referenceIoWrite o v s).f = s.f := rfl
@[simp] theorem referenceIoWrite_sp (o v : Byte) (s : State) : (referenceIoWrite o v s).sp = s.sp := rfl
@[simp] theorem referenceIoWrite_pc (o v : Byte) (s : State) : (referenceIoWrite o v s).pc = s.pc := rfl
@[simp] theorem referenceIoWrite_ime (o v : Byte) (s : State) : (referenceIoWrite o v s).ime = s.ime := rfl
@[simp] theorem referenceIoWrite_imeDelay (o v : Byte) (s : State) : (referenceIoWrite o v s).imeDelay = s.imeDelay := rfl
@[simp] theorem referenceIoWrite_halted (o v : Byte) (s : State) : (referenceIoWrite o v s).halted = s.halted := rfl
@[simp] theorem referenceIoWrite_instrCount (o v : Byte) (s : State) : (referenceIoWrite o v s).instrCount = s.instrCount := rfl
@[simp] theorem referenceIoWrite_doubleSpeed (o v : Byte) (s : State) : (referenceIoWrite o v s).doubleSpeed = s.doubleSpeed := rfl
@[simp] theorem referenceIoWrite_wram (o v : Byte) (s : State) : (referenceIoWrite o v s).wram = s.wram := rfl
@[simp] theorem referenceIoWrite_oam (o v : Byte) (s : State) : (referenceIoWrite o v s).oam = s.oam := rfl
@[simp] theorem referenceIoWrite_rom (o v : Byte) (s : State) : (referenceIoWrite o v s).rom = s.rom := rfl
@[simp] theorem referenceIoWrite_cram (o v : Byte) (s : State) : (referenceIoWrite o v s).cram = s.cram := rfl
@[simp] theorem referenceIoWrite_vram (o v : Byte) (s : State) : (referenceIoWrite o v s).vram = s.vram := rfl
@[simp] theorem referenceIoWrite_cartState (o v : Byte) (s : State) : (referenceIoWrite o v s).cartState = s.cartState := rfl
@[simp] theorem referenceIoWrite_dispState (o v : Byte) (s : State) : (referenceIoWrite o v s).dispState = s.dispState := rfl
@[simp] theorem referenceIoWrite_ioInput (o v : Byte) (s : State) : (referenceIoWrite o v s).ioInput = s.ioInput := rfl
@[simp] theorem referenceIoWrite_events (o v : Byte) (s : State) : (referenceIoWrite o v s).events = s.events := rfl
@[simp] theorem referenceIoWrite_frameComposed (o v : Byte) (s : State) : (referenceIoWrite o v s).frameComposed = s.frameComposed := rfl
@[simp] theorem referenceIoWrite_frameHold (o v : Byte) (s : State) : (referenceIoWrite o v s).frameHold = s.frameHold := rfl
@[simp] theorem referenceIoWrite_terminate (o v : Byte) (s : State) : (referenceIoWrite o v s).terminate = s.terminate := rfl
@[simp] theorem referenceIoWrite_params (o v : Byte) (s : State) : (referenceIoWrite o v s).params = s.params := rfl

/-! ### suppliedIoWrite: what it leaves alone -/

@[simp] theorem suppliedIoWrite_a (o v : Byte) (s : State) : (suppliedIoWrite o v s).a = s.a := rfl
@[simp] theorem suppliedIoWrite_b (o v : Byte) (s : State) : (suppliedIoWrite o v s).b = s.b := rfl
@[simp] theorem suppliedIoWrite_c (o v : Byte) (s : State) : (suppliedIoWrite o v s).c = s.c := rfl
@[simp] theorem suppliedIoWrite_d (o v : Byte) (s : State) : (suppliedIoWrite o v s).d = s.d := rfl
@[simp] theorem suppliedIoWrite_e (o v : Byte) (s : State) : (suppliedIoWrite o v s).e = s.e := rfl
@[simp] theorem suppliedIoWrite_h (o v : Byte) (s : State) : (suppliedIoWrite o v s).h = s.h := rfl
@[simp] theorem suppliedIoWrite_l (o v : Byte) (s : State) : (suppliedIoWrite o v s).l = s.l := rfl
@[simp] theorem suppliedIoWrite_f (o v : Byte) (s : State) : (suppliedIoWrite o v s).f = s.f := rfl
@[simp] theorem suppliedIoWrite_sp (o v : Byte) (s : State) : (suppliedIoWrite o v s).sp = s.sp := rfl
@[simp] theorem suppliedIoWrite_pc (o v : Byte) (s : State) : (suppliedIoWrite o v s).pc = s.pc := rfl
@[simp] theorem suppliedIoWrite_ime (o v : Byte) (s : State) : (suppliedIoWrite o v s).ime = s.ime := rfl
@[simp] theorem suppliedIoWrite_imeDelay (o v : Byte) (s : State) : (suppliedIoWrite o v s).imeDelay = s.imeDelay := rfl
@[simp] theorem suppliedIoWrite_halted (o v : Byte) (s : State) : (suppliedIoWrite o v s).halted = s.halted := rfl
@[simp] theorem suppliedIoWrite_instrCount (o v : Byte) (s : State) : (suppliedIoWrite o v s).instrCount = s.instrCount := rfl
@[simp] theorem suppliedIoWrite_doubleSpeed (o v : Byte) (s : State) : (suppliedIoWrite o v s).doubleSpeed = s.doubleSpeed := rfl
@[simp] theorem suppliedIoWrite_rom (o v : Byte) (s : State) : (suppliedIoWrite o v s).rom = s.rom := rfl
@[simp] theorem suppliedIoWrite_cram (o v : Byte) (s : State) : (suppliedIoWrite o v s).cram = s.cram := rfl
@[simp] theorem suppliedIoWrite_cartState (o v : Byte) (s : State) : (suppliedIoWrite o v s).cartState = s.cartState := rfl
@[simp] theorem suppliedIoWrite_ioInput (o v : Byte) (s : State) : (suppliedIoWrite o v s).ioInput = s.ioInput := rfl
@[simp] theorem suppliedIoWrite_events (o v : Byte) (s : State) : (suppliedIoWrite o v s).events = s.events := rfl
@[simp] theorem suppliedIoWrite_frameComposed (o v : Byte) (s : State) : (suppliedIoWrite o v s).frameComposed = s.frameComposed := rfl
@[simp] theorem suppliedIoWrite_frameHold (o v : Byte) (s : State) : (suppliedIoWrite o v s).frameHold = s.frameHold := rfl
@[simp] theorem suppliedIoWrite_terminate (o v : Byte) (s : State) : (suppliedIoWrite o v s).terminate = s.terminate := rfl
@[simp] theorem suppliedIoWrite_params (o v : Byte) (s : State) : (suppliedIoWrite o v s).params = s.params := rfl

/-! ### ioWrite: what it leaves alone -/

@[simp] theorem ioWrite_a (o v : Byte) (s : State) : (ioWrite o v s).a = s.a := by unfold ioWrite; split <;> rfl
@[simp] theorem ioWrite_b (o v : Byte) (s : State) : (ioWrite o v s).b = s.b := by unfold ioWrite; split <;> rfl
@[simp] theorem ioWrite_c (o v : Byte) (s : State) : (ioWrite o v s).c = s.c := by unfold ioWrite; split <;> rfl
@[simp] theorem ioWrite_d (o v : Byte) (s : State) : (ioWrite o v s).d = s.d := by unfold ioWrite; split <;> rfl
@[simp] theorem ioWrite_e (o v : Byte) (s : State) : (ioWrite o v s).e = s.e := by unfold ioWrite; split <;> rfl
@[simp] theorem ioWrite_h (o v : Byte) (s : State) : (ioWrite o v s).h = s.h := by unfold ioWrite; split <;> rfl
@[simp] theorem ioWrite_l (o v : Byte) (s : State) : (ioWrite o v s).l = s.l := by unfold ioWrite; split <;> rfl
@[simp] theorem ioWrite_f (o v : Byte) (s : State) : (ioWrite o v s).f = s.f := by unfold ioWrite; split <;> rfl
@[simp] theorem ioWrite_sp (o v : Byte) (s : State) : (ioWrite o v s).sp = s.sp := by unfold ioWrite; split <;> rfl
@[simp] theorem ioWrite_pc (o v : Byte) (s : State) : (ioWrite o v s).pc = s.pc := by unfold ioWrite; split <;> rfl
@[simp] theorem ioWrite_ime (o v : Byte) (s : State) : (ioWrite o v s).ime = s.ime := by unfold ioWrite; split <;> rfl
@[simp] theorem ioWrite_imeDelay (o v : Byte) (s : State) : (ioWrite o v s).imeDelay = s.imeDelay := by unfold ioWrite; split <;> rfl
@[simp] theorem ioWrite_halted (o v : Byte) (s : State) : (ioWrite o v s).halted = s.halted := by unfold ioWrite; split <;> rfl
@[simp] theorem ioWrite_instrCount (o v : Byte) (s : State) : (ioWrite o v s).instrCount = s.instrCount := by unfold ioWrite; split <;> rfl
@[simp] theorem ioWrite_doubleSpeed (o v : Byte) (s : State) : (ioWrite o v s).doubleSpeed = s.doubleSpeed := by unfold ioWrite; split <;> rfl
@[simp] theorem ioWrite_rom (o v : Byte) (s : State) : (ioWrite o v s).rom = s.rom := by unfold ioWrite; split <;> rfl
@[simp] theorem ioWrite_cram (o v : Byte) (s : State) : (ioWrite o v s).cram = s.cram := by unfold ioWrite; split <;> rfl
@[simp] theorem ioWrite_cartState (o v : Byte) (s : State) : (ioWrite o v s).cartState = s.cartState := by unfold ioWrite; split <;> rfl
@[simp] theorem ioWrite_ioInput (o v : Byte) (s : State) : (ioWrite o v s).ioInput = s.ioInput := by unfold ioWrite; split <;> rfl
@[simp] theorem ioWrite_events (o v : Byte) (s : State) : (ioWrite o v s).events = s.events := by unfold ioWrite; split <;> rfl
@[simp] theorem ioWrite_frameComposed (o v : Byte) (s : State) : (ioWrite o v s).frameComposed = s.frameComposed := by unfold ioWrite; split <;> rfl
@[simp] theorem ioWrite_frameHold (o v : Byte) (s : State) : (ioWrite o v s).frameHold = s.frameHold := by unfold ioWrite; split <;> rfl
@[simp] theorem ioWrite_terminate (o v : Byte) (s : State) : (ioWrite o v s).terminate = s.terminate := by unfold ioWrite; split <;> rfl
@[simp] theorem ioWrite_params (o v : Byte) (s : State) : (ioWrite o v s).params = s.params := by unfold ioWrite; split <;> rfl

/-! ### busWrite: what it leaves alone -/

@[simp] theorem busWrite_a (a : Word) (v : Byte) (s : State) : (busWrite a v s).a = s.a := by unfold busWrite; cases regionOf a <;> first | rfl | exact ioWrite_a _ _ _
@[simp] theorem busWrite_b (a : Word) (v : Byte) (s : State) : (busWrite a v s).b = s.b := by unfold busWrite; cases regionOf a <;> first | rfl | exact ioWrite_b _ _ _
@[simp] theorem busWrite_c (a : Word) (v : Byte) (s : State) : (busWrite a v s).c = s.c := by unfold busWrite; cases regionOf a <;> first | rfl | exact ioWrite_c _ _ _
@[simp] theorem busWrite_d (a : Word) (v : Byte) (s : State) : (busWrite a v s).d = s.d := by unfold busWrite; cases regionOf a <;> first | rfl | exact ioWrite_d _ _ _
@[simp] theorem busWrite_e (a : Word) (v : Byte) (s : State) : (busWrite a v s).e = s.e := by unfold busWrite; cases regionOf a <;> first | rfl | exact ioWrite_e _ _ _
@[simp] theorem busWrite_h (a : Word) (v : Byte) (s : State) : (busWrite a v s).h = s.h := by unfold busWrite; cases regionOf a <;> first | rfl | exact ioWrite_h _ _ _
@[simp] theorem busWrite_l (a : Word) (v : Byte) (s : State) : (busWrite a v s).l = s.l := by unfold busWrite; cases regionOf a <;> first | rfl | exact ioWrite_l _ _ _
@[simp] theorem busWrite_f (a : Word) (v : Byte) (s : State) : (busWrite a v s).f = s.f := by unfold busWrite; cases regionOf a <;> first | rfl | exact ioWrite_f _ _ _
@[simp] theorem busWrite_sp (a : Word) (v : Byte) (s : State) : (busWrite a v s).sp = s.sp := by unfold busWrite; cases regionOf a <;> first | rfl | exact ioWrite_sp _ _ _
@[simp] theorem busWrite_pc (a : Word) (v : Byte) (s : State) : (busWrite a v s).pc = s.pc := by unfold busWrite; cases regionOf a <;> first | rfl | exact ioWrite_pc _ _ _
@[simp] theorem busWrite_ime (a : Word) (v : Byte) (s : State) : (busWrite a v s).ime = s.ime := by unfold busWrite; cases regionOf a <;> first | rfl | exact ioWrite_ime _ _ _
@[simp] theorem busWrite_imeDelay (a : Word) (v : Byte) (s : State) : (busWrite a v s).imeDelay = s.imeDelay := by unfold busWrite; cases regionOf a <;> first | rfl | exact ioWrite_imeDelay _ _ _
@[simp] theorem busWrite_halted (a : Word) (v : Byte) (s : State) : (busWrite a v s).halted = s.halted := by unfold busWrite; cases regionOf a <;> first | rfl | exact ioWrite_halted _ _ _
@[simp] theorem busWrite_instrCount (a : Word) (v : Byte) (s : State) : (busWrite a v s).instrCount = s.instrCount := by unfold busWrite; cases regionOf a <;> first | rfl | exact ioWrite_instrCount _ _ _
@[simp] theorem busWrite_doubleSpeed (a : Word) (v : Byte) (s : State) : (busWrite a v s).doubleSpeed = s.doubleSpeed := by unfold busWrite; cases regionOf a <;> first | rfl | exact ioWrite_doubleSpeed _ _ _
@[simp] theorem busWrite_rom (a : Word) (v : Byte) (s : State) : (busWrite a v s).rom = s.rom := by unfold busWrite; cases regionOf a <;> first | rfl | exact ioWrite_rom _ _ _
@[simp] theorem busWrite_ioInput (a : Word) (v : Byte) (s : State) : (busWrite a v s).ioInput = s.ioInput := by unfold busWrite; cases regionOf a <;> first | rfl | exact ioWrite_ioInput _ _ _
@[simp] theorem busWrite_events (a : Word) (v : Byte) (s : State) : (busWrite a v s).events = s.events := by unfold busWrite; cases regionOf a <;> first | rfl | exact ioWrite_events _ _ _
@[simp] theorem busWrite_frameComposed (a : Word) (v : Byte) (s : State) : (busWrite a v s).frameComposed = s.frameComposed := by unfold busWrite; cases regionOf a <;> first | rfl | exact ioWrite_frameComposed _ _ _
@[simp] theorem busWrite_frameHold (a : Word) (v : Byte) (s : State) : (busWrite a v s).frameHold = s.frameHold := by unfold busWrite; cases regionOf a <;> first | rfl | exact ioWrite_frameHold _ _ _
@[simp] theorem busWrite_terminate (a : Word) (v : Byte) (s : State) : (busWrite a v s).terminate = s.terminate := by unfold busWrite; cases regionOf a <;> first | rfl | exact ioWrite_terminate _ _ _
@[simp] theorem busWrite_params (a : Word) (v : Byte) (s : State) : (busWrite a v s).params = s.params := by unfold busWrite; cases regionOf a <;> first | rfl | exact ioWrite_params _ _ _

/-! ### push: what it leaves alone -/

@[simp] theorem push_a (w : Word) (s : State) : (push w s).a = s.a := by simp [push]
@[simp] theorem push_b (w : Word) (s : State) : (push w s).b = s.b := by simp [push]
@[simp] theorem push_c (w : Word) (s : State) : (push w s).c = s.c := by simp [push]
@[simp] theorem push_d (w : Word) (s : State) : (push w s).d = s.d := by simp [push]
@[simp] theorem push_e (w : Word) (s : State) : (push w s).e = s.e := by simp [push]
@[simp] theorem push_h (w : Word) (s : State) : (push w s).h = s.h := by simp [push]
@[simp] theorem push_l (w : Word) (s : State) : (push w s).l = s.l := by simp [push]
@[simp] theorem push_f (w : Word) (s : State) : (push w s).f = s.f := by simp [push]
@[simp] theorem push_pc (w : Word) (s : State) : (push w s).pc = s.pc := by simp [push]
@[simp] theorem push_ime (w : Word) (s : State) : (push w s).ime = s.ime := by simp [push]
@[simp] theorem push_imeDelay (w : Word) (s : State) : (push w s).imeDelay = s.imeDelay := by simp [push]
@[simp] theorem push_halted (w : Word) (s : State) : (push w s).halted = s.halted := by simp [push]
@[simp] theorem push_instrCount (w : Word) (s : State) : (push w s).instrCount = s.instrCount := by simp [push]
@[simp] theorem push_doubleSpeed (w : Word) (s : State) : (push w s).doubleSpeed = s.doubleSpeed := by simp [push]
@[simp] theorem push_rom (w : Word) (s : State) : (push w s).rom = s.rom := by simp [push]
@[simp] theorem push_ioInput (w : Word) (s : State) : (push w s).ioInput = s.ioInput := by simp [push]
@[simp] theorem push_events (w : Word) (s : State) : (push w s).events = s.events := by simp [push]
@[simp] theorem push_frameComposed (w : Word) (s : State) : (push w s).frameComposed = s.frameComposed := by simp [push]
@[simp] theorem push_frameHold (w : Word) (s : State) : (push w s).frameHold = s.frameHold := by simp [push]
@[simp] theorem push_terminate (w : Word) (s : State) : (push w s).terminate = s.terminate := by simp [push]
@[simp] theorem push_params (w : Word) (s : State) : (push w s).params = s.params := by simp [push]

@[simp] theorem push_sp (w : Word) (s : State) : (push w s).sp = s.sp - 2 := by simp [push]

/-! ### writeR8: what it leaves alone -/

@[simp] theorem writeR8_f (r : Operand8) (v : Byte) (s : State) : (writeR8 r v s).f = s.f := by cases r <;> first | rfl | exact busWrite_f _ _ _
@[simp] theorem writeR8_sp (r : Operand8) (v : Byte) (s : State) : (writeR8 r v s).sp = s.sp := by cases r <;> first | rfl | exact busWrite_sp _ _ _
@[simp] theorem writeR8_pc (r : Operand8) (v : Byte) (s : State) : (writeR8 r v s).pc = s.pc := by cases r <;> first | rfl | exact busWrite_pc _ _ _
@[simp] theorem writeR8_ime (r : Operand8) (v : Byte) (s : State) : (writeR8 r v s).ime = s.ime := by cases r <;> first | rfl | exact busWrite_ime _ _ _
@[simp] theorem writeR8_imeDelay (r : Operand8) (v : Byte) (s : State) : (writeR8 r v s).imeDelay = s.imeDelay := by cases r <;> first | rfl | exact busWrite_imeDelay _ _ _
@[simp] theorem writeR8_halted (r : Operand8) (v : Byte) (s : State) : (writeR8 r v s).halted = s.halted := by cases r <;> first | rfl | exact busWrite_halted _ _ _
@[simp] theorem writeR8_instrCount (r : Operand8) (v : Byte) (s : State) : (writeR8 r v s).instrCount = s.instrCount := by cases r <;> first | rfl | exact busWrite_instrCount _ _ _
@[simp] theorem writeR8_doubleSpeed (r : Operand8) (v : Byte) (s : State) : (writeR8 r v s).doubleSpeed = s.doubleSpeed := by cases r <;> first | rfl | exact busWrite_doubleSpeed _ _ _
@[simp] theorem writeR8_rom (r : Operand8) (v : Byte) (s : State) : (writeR8 r v s).rom = s.rom := by cases r <;> first | rfl | exact busWrite_rom _ _ _
@[simp] theorem writeR8_ioInput (r : Operand8) (v : Byte) (s : State) : (writeR8 r v s).ioInput = s.ioInput := by cases r <;> first | rfl | exact busWrite_ioInput _ _ _
@[simp] theorem writeR8_events (r : Operand8) (v : Byte) (s : State) : (writeR8 r v s).events = s.events := by cases r <;> first | rfl | exact busWrite_events _ _ _
@[simp] theorem writeR8_frameComposed (r : Operand8) (v : Byte) (s : State) : (writeR8 r v s).frameComposed = s.frameComposed := by cases r <;> first | rfl | exact busWrite_frameComposed _ _ _
@[simp] theorem writeR8_frameHold (r : Operand8) (v : Byte) (s : State) : (writeR8 r v s).frameHold = s.frameHold := by cases r <;> first | rfl | exact busWrite_frameHold _ _ _
@[simp] theorem writeR8_terminate (r : Operand8) (v : Byte) (s : State) : (writeR8 r v s).terminate = s.terminate := by cases r <;> first | rfl | exact busWrite_terminate _ _ _
@[simp] theorem writeR8_params (r : Operand8) (v : Byte) (s : State) : (writeR8 r v s).params = s.params := by cases r <;> first | rfl | exact busWrite_params _ _ _

/-! ### writePair: what it leaves alone -/

@[simp] theorem writePair_a (p : Pair) (w : Word) (s : State) : (writePair p w s).a = s.a := by cases p <;> rfl
@[simp] theorem writePair_f (p : Pair) (w : Word) (s : State) : (writePair p w s).f = s.f := by cases p <;> rfl
@[simp] theorem writePair_pc (p : Pair) (w : Word) (s : State) : (writePair p w s).pc = s.pc := by cases p <;> rfl
@[simp] theorem writePair_ime (p : Pair) (w : Word) (s : State) : (writePair p w s).ime = s.ime := by cases p <;> rfl
@[simp] theorem writePair_imeDelay (p : Pair) (w : Word) (s : State) : (writePair p w s).imeDelay = s.imeDelay := by cases p <;> rfl
@[simp] theorem writePair_halted (p : Pair) (w : Word) (s : State) : (writePair p w s).halted = s.halted := by cases p <;> rfl
@[simp] theorem writePair_instrCount (p : Pair) (w : Word) (s : State) : (writePair p w s).instrCount = s.instrCount := by cases p <;> rfl
@[simp] theorem writePair_timerEnabled (p : Pair) (w : Word) (s : State) : (writePair p w s).timerEnabled = s.timerEnabled := by cases p <;> rfl
@[simp] theorem writePair_timaRate (p : Pair) (w : Word) (s : State) : (writePair p w s).timaRate = s.timaRate := by cases p <;> rfl
@[simp] theorem writePair_doubleSpeed (p : Pair) (w : Word) (s : State) : (writePair p w s).doubleSpeed = s.doubleSpeed := by cases p <;> rfl
@[simp] theorem writePair_div (p : Pair) (w : Word) (s : State) : (writePair p w s).div = s.div := by cases p <;> rfl
@[simp] theorem writePair_tima (p : Pair) (w : Word) (s : State) : (writePair p w s).tima = s.tima := by cases p <;> rfl
@[simp] theorem writePair_tma (p : Pair) (w : Word) (s : State) : (writePair p w s).tma = s.tma := by cases p <;> rfl
@[simp] theorem writePair_tac (p : Pair) (w : Word) (s : State) : (writePair p w s).tac = s.tac := by cases p <;> rfl
@[simp] theorem writePair_ifReg (p : Pair) (w : Word) (s : State) : (writePair p w s).ifReg = s.ifReg := by cases p <;> rfl
@[simp] theorem writePair_lcdc (p : Pair) (w : Word) (s : State) : (writePair p w s).lcdc = s.lcdc := by cases p <;> rfl
@[simp] theorem writePair_stat (p : Pair) (w : Word) (s : State) : (writePair p w s).stat = s.stat := by cases p <;> rfl
@[simp] theorem writePair_ly (p : Pair) (w : Word) (s : State) : (writePair p w s).ly = s.ly := by cases p <;> rfl
@[simp] theorem writePair_lyc (p : Pair) (w : Word) (s : State) : (writePair p w s).lyc = s.lyc := by cases p <;> rfl
@[simp] theorem writePair_ieReg (p : Pair) (w : Word) (s : State) : (writePair p w s).ieReg = s.ieReg := by cases p <;> rfl
@[simp] theorem writePair_io (p : Pair) (w : Word) (s : State) : (writePair p w s).io = s.io := by cases p <;> rfl
@[simp] theorem writePair_wram (p : Pair) (w : Word) (s : State) : (writePair p w s).wram = s.wram := by cases p <;> rfl
@[simp] theorem writePair_wramBank (p : Pair) (w : Word) (s : State) : (writePair p w s).wramBank = s.wramBank := by cases p <;> rfl
@[simp] theorem writePair_oam (p : Pair) (w : Word) (s : State) : (writePair p w s).oam = s.oam := by cases p <;> rfl
@[simp] theorem writePair_rom (p : Pair) (w : Word) (s : State) : (writePair p w s).rom = s.rom := by cases p <;> rfl
@[simp] theorem writePair_cram (p : Pair) (w : Word) (s : State) : (writePair p w s).cram = s.cram := by cases p <;> rfl
@[simp] theorem writePair_vram (p : Pair) (w : Word) (s : State) : (writePair p w s).vram = s.vram := by cases p <;> rfl
@[simp] theorem writePair_cartState (p : Pair) (w : Word) (s : State) : (writePair p w s).cartState = s.cartState := by cases p <;> rfl
@[simp] theorem writePair_dispState (p : Pair) (w : Word) (s : State) : (writePair p w s).dispState = s.dispState := by cases p <;> rfl
@[simp] theorem writePair_ioInput (p : Pair) (w : Word) (s : State) : (writePair p w s).ioInput = s.ioInput := by cases p <;> rfl
@[simp] theorem writePair_events (p : Pair) (w : Word) (s : State) : (writePair p w s).events = s.events := by cases p <;> rfl
@[simp] theorem writePair_frameComposed (p : Pair) (w : Word) (s : State) : (writePair p w s).frameComposed = s.frameComposed := by cases p <;> rfl
@[simp] theorem writePair_frameHold (p : Pair) (w : Word) (s : State) : (writePair p w s).frameHold = s.frameHold := by cases p <;> rfl
@[simp] theorem writePair_terminate (p : Pair) (w : Word) (s : State) : (writePair p w s).terminate = s.terminate := by cases p <;> rfl
@[simp] theorem writePair_params (p : Pair) (w : Word) (s : State) : (writePair p w s).params = s.params := by cases p <;> rfl

/-! ### writePairAF: what it leaves alone -/

@[simp] theorem writePairAF_sp (p : PairAF) (w : Word) (s : State) : (writePairAF p w s).sp = s.sp := by cases p <;> rfl
@[simp] theorem writePairAF_pc (p : PairAF) (w : Word) (s : State) : (writePairAF p w s).pc = s.pc := by cases p <;> rfl
@[simp] theorem writePairAF_ime (p : PairAF) (w : Word) (s : State) : (writePairAF p w s).ime = s.ime := by cases p <;> rfl
@[simp] theorem writePairAF_imeDelay (p : PairAF) (w : Word) (s : State) : (writePairAF p w s).imeDelay = s.imeDelay := by cases p <;> rfl
@[simp] theorem writePairAF_halted (p : PairAF) (w : Word) (s : State) : (writePairAF p w s).halted = s.halted := by cases p <;> rfl
@[simp] theorem writePairAF_instrCount (p : PairAF) (w : Word) (s : State) : (writePairAF p w s).instrCount = s.instrCount := by cases p <;> rfl
@[simp] theorem writePairAF_timerEnabled (p : PairAF) (w : Word) (s : State) : (writePairAF p w s).timerEnabled = s.timerEnabled := by cases p <;> rfl
@[simp] theorem writePairAF_timaRate (p : PairAF) (w : Word) (s : State) : (writePairAF p w s).timaRate = s.timaRate := by cases p <;> rfl
@[simp] theorem writePairAF_doubleSpeed (p : PairAF) (w : Word) (s : State) : (writePairAF p w s).doubleSpeed = s.doubleSpeed := by cases p <;> rfl
@[simp] theorem writePairAF_div (p : PairAF) (w : Word) (s : State) : (writePairAF p w s).div = s.div := by cases p <;> rfl
@[simp] theorem writePairAF_tima (p : PairAF) (w : Word) (s : State) : (writePairAF p w s).tima = s.tima := by cases p <;> rfl
@[simp] theorem writePairAF_tma (p : PairAF) (w : Word) (s : State) : (writePairAF p w s).tma = s.tma := by cases p <;> rfl
@[simp] theorem writePairAF_tac (p : PairAF) (w : Word) (s : State) : (writePairAF p w s).tac = s.tac := by cases p <;> rfl
@[simp] theorem writePairAF_ifReg (p : PairAF) (w : Word) (s : State) : (writePairAF p w s).ifReg = s.ifReg := by cases p <;> rfl
@[simp] theorem writePairAF_lcdc (p : PairAF) (w : Word) (s : State) : (writePairAF p w s).lcdc = s.lcdc := by cases p <;> rfl
@[simp] theorem writePairAF_stat (p : PairAF) (w : Word) (s : State) : (writePairAF p w s).stat = s.stat := by cases p <;> rfl
@[simp] theorem writePairAF_ly (p : PairAF) (w : Word) (s : State) : (writePairAF p w s).ly = s.ly := by cases p <;> rfl
@[simp] theorem writePairAF_lyc (p : PairAF) (w : Word) (s : State) : (writePairAF p w s).lyc = s.lyc := by cases p <;> rfl
@[simp] theorem writePairAF_ieReg (p : PairAF) (w : Word) (s : State) : (writePairAF p w s).ieReg = s.ieReg := by cases p <;> rfl
@[simp] theorem writePairAF_io (p : PairAF) (w : Word) (s : State) : (writePairAF p w s).io = s.io := by cases p <;> rfl
@[simp] theorem writePairAF_wram (p : PairAF) (w : Word) (s : State) : (writePairAF p w s).wram = s.wram := by cases p <;> rfl
@[simp] theorem writePairAF_wramBank (p : PairAF) (w : Word) (s : State) : (writePairAF p w s).wramBank = s.wramBank := by cases p <;> rfl
@[simp] theorem writePairAF_oam (p : PairAF) (w : Word) (s : State) : (writePairAF p w s).oam = s.oam := by cases p <;> rfl
@[simp] theorem writePairAF_rom (p : PairAF) (w : Word) (s : State) : (writePairAF p w s).rom = s.rom := by cases p <;> rfl
@[simp] theorem writePairAF_cram (p : PairAF) (w : Word) (s : State) : (writePairAF p w s).cram = s.cram := by cases p <;> rfl
@[simp] theorem writePairAF_vram (p : PairAF) (w : Word) (s : State) : (writePairAF p w s).vram = s.vram := by cases p <;> rfl
@[simp] theorem writePairAF_cartState (p : PairAF) (w : Word) (s : State) : (writePairAF p w s).cartState = s.cartState := by cases p <;> rfl
@[simp] theorem writePairAF_dispState (p : PairAF) (w : Word) (s : State) : (writePairAF p w s).dispState = s.dispState := by cases p <;> rfl
@[simp] theorem writePairAF_ioInput (p : PairAF) (w : Word) (s : State) : (writePairAF p w s).ioInput = s.ioInput := by cases p <;> rfl
@[simp] theorem writePairAF_events (p : PairAF) (w : Word) (s : State) : (writePairAF p w s).events = s.events := by cases p <;> rfl
@[simp] theorem writePairAF_frameComposed (p : PairAF) (w : Word) (s : State) : (writePairAF p w s).frameComposed = s.frameComposed := by cases p <;> rfl
@[simp] theorem writePairAF_frameHold (p : PairAF) (w : Word) (s : State) : (writePairAF p w s).frameHold = s.frameHold := by cases p <;> rfl
@[simp] theorem writePairAF_terminate (p : PairAF) (w : Word) (s : State) : (writePairAF p w s).terminate = s.terminate := by cases p <;> rfl
@[simp] theorem writePairAF_params (p : PairAF) (w : Word) (s : State) : (writePairAF p w s).params = s.params := by cases p <;> rfl

/-! ### Reading the I/O block after a direct write -/

theorem ioGet_ioSet_same (o v : Byte) (s : State) : ioGet o (ioSet o v s) = v := by
  unfold ioGet
  repeat' split
  all_goals try exact if_pos ‹_›
  have hn : isNamedOffset o = false := by simp_all [isNamedOffset]
  show readCell .io (if isNamedOffset o then s.io else memSet s.io o.toNat v) o.toNat = v
  simp [hn]

theorem ioGet_ioSet_ne {o x : Byte} (v : Byte) (s : State) (h : x ≠ o) : ioGet x (ioSet o v s) = ioGet x s := by
  have hn : x.toNat ≠ o.toNat := fun e => h (BitVec.eq_of_toNat_eq e)
  unfold ioGet
  repeat' split
  all_goals try (subst x; exact if_neg (Ne.symm h))
  show readCell .io (if isNamedOffset o then s.io else memSet s.io o.toNat v) x.toNat = readCell .io s.io x.toNat
  split
  · rfl
  · exact readCell_memSet_ne _ _ _ hn

/-! ### The storage cells behind the bus -/

/-- What a storage cell holds. -/
def cellRead (c : Store × Nat) (s : State) : Byte :=
  match c.1 with
  | .wram => readCell .wram s.wram c.2
  | .oam => readCell .oam s.oam c.2
  | .io => ioGet (BitVec.ofNat 8 c.2) s
  | .rom => readCell .rom s.rom c.2
  | .cram => readCell .cram s.cram c.2
  | .vram => readCell .vram s.vram c.2

theorem regionOf_cartRom {a : Word} (h : regionOf a = .cartRom) : a ≤ 0x7FFF := by
  unfold regionOf at h
  split at h
  · assumption
  · repeat' split at h
    all_goals cases h

theorem regionOf_cartRam {a : Word} (h : regionOf a = .cartRam) : ¬ a ≤ 0x7FFF := by
  unfold regionOf at h
  split at h
  · cases h
  · assumption

/-- The reference cartridge's read (R71) and the supplied one's (R70). -/
theorem cartRead_reference {s : State} (h : s.params.cartridge = .reference) (a : Word) :
    cartRead a s = if a ≤ 0x7FFF then readCell .rom s.rom a.toNat else readCell .cram s.cram (a - 0xA000).toNat := by
  simp [cartRead, h]
theorem cartRead_supplied {s : State} (h : s.params.cartridge = .supplied) (a : Word) :
    cartRead a s = Config.Cartridge.read s.cartState a := by simp [cartRead, h]

/-- A write to the reference cartridge's ROM window is ignored (R71). -/
theorem cartWrite_inRom {a : Word} {s : State} (v : Byte) (hr : s.params.cartridge = .reference) (h : a ≤ 0x7FFF) :
    cartWrite a v s = s := by
  unfold cartWrite; rw [if_pos (Or.inr h), if_neg (by simp [hr])]

/-- A write to the reference cartridge's RAM window stores its byte (R71). -/
theorem cartWrite_inRam {a : Word} {s : State} (v : Byte) (hr : s.params.cartridge = .reference) (h : ¬ a ≤ 0x7FFF) :
    cartWrite a v s = { s with cram := memSet s.cram (a - 0xA000).toNat v } := by
  unfold cartWrite; rw [if_neg (not_or.mpr ⟨by simp [hr], h⟩), if_neg (by simp [hr])]

/-- A write to the supplied cartridge goes to its own state (R70). -/
theorem cartWrite_supplied {s : State} (a : Word) (v : Byte) (h : s.params.cartridge = .supplied) :
    cartWrite a v s = { s with cartState := Config.Cartridge.write s.cartState a v } := by simp [cartWrite, h]

/-- The reference display's read and write (R73), and the supplied one's (R72). -/
theorem displayRead_reference {s : State} (h : s.params.display = .reference) (o : Word) :
    displayRead o s = readCell .vram s.vram o.toNat := by simp [displayRead, h]
theorem displayRead_supplied {s : State} (h : s.params.display = .supplied) (o : Word) :
    displayRead o s = Config.Display.read s.dispState (displayOffset o) := by simp [displayRead, h]
theorem displayWrite_reference {s : State} (o : Word) (v : Byte) (h : s.params.display = .reference) :
    displayWrite o v s = { s with vram := memSet s.vram o.toNat v } := by simp [displayWrite, h]
theorem displayWrite_supplied {s : State} (o : Word) (v : Byte) (h : s.params.display = .supplied) :
    displayWrite o v s = { s with dispState := Config.Display.write s.dispState (displayOffset o) v } := by
  simp [displayWrite, h]

/-- The handler a read is answered by (R74). -/
theorem ioRead_reference {s : State} (h : s.params.ioHandler = .reference) (o : Byte) : ioRead o s = ioGet o s := by
  unfold ioRead; split <;> simp [h]
theorem ioRead_interrupt {o : Byte} (s : State) (h : isInterruptOffset o = true) : ioRead o s = ioGet o s := if_pos h
theorem ioRead_supplied {o : Byte} {s : State} (h : s.params.ioHandler = .supplied) (ho : isInterruptOffset o = false) :
    ioRead o s = Config.IoHandler.read (handlerView s) o := by simp [ioRead, h, ho]

/-- The handler a write goes to (R74). -/
theorem ioWrite_reference {s : State} (o v : Byte) (h : s.params.ioHandler = .reference) :
    ioWrite o v s = referenceIoWrite o v s := by simp [ioWrite, h]
theorem ioWrite_supplied {s : State} (o v : Byte) (h : s.params.ioHandler = .supplied) :
    ioWrite o v s = suppliedIoWrite o v s := by simp [ioWrite, h]

/-- A bus read is a read of the cell its address reaches (R62), where the instance that serves it is the reference
instance or keeps the byte as stored. -/
theorem busRead_eq_cellRead {a : Word} {s : State} (hc : inCartridge a = true → s.params.cartridge = .reference)
    (hd : regionOf a = .display → s.params.display = .reference) (hi : computedRead s a = false) :
    busRead a s = cellRead (cellOf s.wramBank a) s := by
  unfold busRead cellOf
  unfold inCartridge at hc
  unfold computedRead at hi
  cases h : regionOf a <;> simp only [h] at hc hd hi ⊢
  case cartRom => rw [cartRead_reference (hc rfl), if_pos (regionOf_cartRom h)]; rfl
  case cartRam => rw [cartRead_reference (hc rfl), if_neg (regionOf_cartRam h)]; rfl
  case display => rw [displayRead_reference (hd trivial)]; rfl
  case io =>
    have hx : ioRead (lo8 a) s = ioGet (lo8 a) s := by
      cases hs : s.params.ioHandler with
      | reference => exact ioRead_reference hs _
      | supplied => exact ioRead_interrupt s (by simpa [hs] using hi)
    simp [cellRead, hx]
  all_goals rfl

/-- A direct write to the I/O block leaves every other cell alone. -/
theorem cellRead_ioSet_ne {o : Byte} {c : Store × Nat} (v : Byte) (s : State) (hc : c.1 = .io → BitVec.ofNat 8 c.2 ≠ o) :
    cellRead c (ioSet o v s) = cellRead c s := by
  obtain ⟨st, k⟩ := c
  cases st
  case io => exact ioGet_ioSet_ne v s (hc rfl)
  all_goals rfl

/-- A write of the reference I/O handler leaves every other cell alone (R75 to R78). -/
theorem cellRead_referenceIoWrite_ne {o : Byte} {c : Store × Nat} (v : Byte) (s : State)
    (hc : c.1 = .io → BitVec.ofNat 8 c.2 ≠ o) : cellRead c (referenceIoWrite o v s) = cellRead c s := by
  obtain ⟨st, k⟩ := c
  cases st
  case io => exact ioGet_ioSet_ne _ s (hc rfl)
  all_goals rfl

/-- A bus write that is no supplied I/O handler's leaves every other cell alone (R63): a supplied cartridge or display
writes to its own state and to no cell. -/
theorem cellRead_busWrite_ne {a : Word} {c : Store × Nat} {s : State} (v : Byte) (hw : c.1 = .io → c.2 < 256)
    (hi : regionOf a = .io → s.params.ioHandler = .reference) (hc : c ≠ cellOf s.wramBank a) :
    cellRead c (busWrite a v s) = cellRead c s := by
  obtain ⟨st, k⟩ := c
  unfold cellOf at hc
  unfold busWrite
  cases h : regionOf a <;> simp only [h] at hc hi ⊢
  case io =>
    rw [ioWrite_reference _ _ (hi trivial)]
    refine cellRead_referenceIoWrite_ne v s fun hst hk => hc ?_
    subst hst
    rw [← hk, BitVec.toNat_ofNat, Nat.mod_eq_of_lt (hw rfl)]
  case cartRom =>
    have : (cartWrite a v s).cram = s.cram := if_pos (Or.inr (regionOf_cartRom h))
    cases st
    case cram => simp [cellRead, this]
    all_goals rfl
  case cartRam =>
    cases st
    case cram =>
      show readCell .cram (cartWrite a v s).cram k = readCell .cram s.cram k
      unfold cartWrite
      dsimp only
      split
      · rfl
      · exact readCell_memSet_ne _ _ _ fun e => hc (Prod.ext rfl e)
    all_goals rfl
  case display =>
    cases st
    case vram =>
      show readCell .vram (displayWrite (a - 0x8000) v s).vram k = readCell .vram s.vram k
      unfold displayWrite
      dsimp only
      split
      · rfl
      · exact readCell_memSet_ne _ _ _ fun e => hc (Prod.ext rfl e)
    all_goals rfl
  all_goals
    cases st
    all_goals first
      | rfl
      | exact readCell_memSet_ne _ _ _ fun e => hc (Prod.ext rfl e)

end Sys2Proof.Machine
end

