-- ==== Sys2Proof/Laws/Canonical.lean ====
section
/-! SUPPORT. Every bus write keeps every memory in its canonical form (20_memory.md R61 to R63). -/

namespace Sys2Proof.Machine

/-- The size of a storage element (R35 to R37, R71, R73). -/
def storeSize (st : Store) : Nat :=
  match st with
  | .wram => 32768
  | .oam => 256
  | .io => 256
  | .rom => 32768
  | .cram => 8192
  | .vram => 8192

/-- The bounds of the range an address lies in (R61). -/
theorem regionOf_range (a : Word) :
    match regionOf a with
    | .cartRom => a.toNat ≤ 0x7FFF
    | .display => 0x8000 ≤ a.toNat ∧ a.toNat ≤ 0x9FFF
    | .cartRam => 0xA000 ≤ a.toNat ∧ a.toNat ≤ 0xBFFF
    | .wramLow => 0xC000 ≤ a.toNat ∧ a.toNat ≤ 0xCFFF
    | .wramBanked => 0xD000 ≤ a.toNat ∧ a.toNat ≤ 0xDFFF
    | .mirror => 0xE000 ≤ a.toNat ∧ a.toNat ≤ 0xFDFF
    | .oam => 0xFE00 ≤ a.toNat ∧ a.toNat ≤ 0xFEFF
    | .io => 0xFF00 ≤ a.toNat := by
  have h := a.isLt
  unfold regionOf
  simp only [BitVec.le_def] at *
  by_cases h1 : a.toNat ≤ 32767
  · simp [h1]
  by_cases h2 : a.toNat ≤ 40959
  · simp [h1, h2]; omega
  by_cases h3 : a.toNat ≤ 49151
  · simp [h1, h2, h3]; omega
  by_cases h4 : a.toNat ≤ 53247
  · simp [h1, h2, h3, h4]; omega
  by_cases h5 : a.toNat ≤ 57343
  · simp [h1, h2, h3, h4, h5]; omega
  by_cases h6 : a.toNat ≤ 65023
  · simp [h1, h2, h3, h4, h5, h6]; omega
  by_cases h7 : a.toNat ≤ 65279
  · simp [h1, h2, h3, h4, h5, h6, h7]; omega
  · simp [h1, h2, h3, h4, h5, h6, h7]; omega

theorem wramIndex_lt (bank : BitVec 3) {a : Word} (h : 0xC000 ≤ a.toNat) (h' : a.toNat ≤ 0xDFFF) : wramIndex bank a < 32768 := by
  have hb : bank.toNat < 8 := bank.isLt
  unfold wramIndex
  split <;> simp_all only [BitVec.le_def, BitVec.toNat_sub] <;> simp at * <;> omega

/-- Every address reaches a cell inside its storage element. -/
theorem cellOf_lt (bank : BitVec 3) (a : Word) : (cellOf bank a).2 < storeSize (cellOf bank a).1 := by
  have hr := regionOf_range a
  have ha := a.isLt
  unfold cellOf
  cases h : regionOf a <;> simp only [h] at hr <;> simp only [storeSize]
  case wramLow => exact wramIndex_lt _ hr.1 (by omega)
  case wramBanked => exact wramIndex_lt _ (by omega) hr.2
  case mirror =>
    have : (a - 0x2000).toNat = a.toNat - 0x2000 := by bv_omega
    exact wramIndex_lt _ (by omega) (by omega)
  case io => exact (lo8 a).isLt
  all_goals bv_omega

/-- A handler's stores keep the canonical form of the memory they go to (R74). -/
theorem memWf_memSetAll {w size : Nat} (hs : 2 ^ w ≤ size) (l : List (BitVec w × Byte)) (m : Memory)
    (h : memWf size m = true) : memWf size (memSetAll l m) = true := by
  induction l generalizing m with
  | nil => exact h
  | cons c l ih => exact ih _ (memWf_memSet _ _ (Nat.lt_of_lt_of_le c.1.isLt hs) h)

/-- A store to the I/O block keeps its canonical form. -/
theorem ioSet_io_wf (o v : Byte) {s : State} (h : memWf 256 s.io = true) : memWf 256 (ioSet o v s).io = true := by
  show memWf 256 (if isNamedOffset o then s.io else memSet s.io o.toNat v) = true
  split
  · exact h
  · exact memWf_memSet _ _ o.isLt h

/-- So do a handler's stores to it. -/
theorem ioSetAll_io_wf (l : List (Byte × Byte)) {s : State} (h : memWf 256 s.io = true) :
    memWf 256 (ioSetAll l s).io = true := by
  induction l generalizing s with
  | nil => exact h
  | cons c l ih => exact ih (ioSet_io_wf _ _ h)

/-- A write to the display keeps the canonical form of its memory. -/
theorem displayWrite_vram_wf {o : Word} (v : Byte) {s : State} (ho : o.toNat < 8192) (h : memWf 8192 s.vram = true) :
    memWf 8192 (displayWrite o v s).vram = true := by
  show memWf 8192 (if s.params.display = .supplied then s.vram else memSet s.vram o.toNat v) = true
  split
  · exact h
  · exact memWf_memSet _ _ ho h

/-- So does a handler's block copy into it. -/
theorem displayWriteAll_vram_wf (l : List (BitVec 13 × Byte)) {s : State} (h : memWf 8192 s.vram = true) :
    memWf 8192 (displayWriteAll l s).vram = true := by
  induction l generalizing s with
  | nil => exact h
  | cons c l ih =>
    refine ih (displayWrite_vram_wf _ ?_ h)
    have := c.1.isLt
    rw [BitVec.toNat_setWidth]
    omega

/-- The write of either I/O handler keeps every memory in canonical form (R74 to R78). -/
theorem ioWrite_memoriesWf (o v : Byte) {s : State} (h : memoriesWf s = true) : memoriesWf (ioWrite o v s) = true := by
  simp only [memoriesWf, Bool.and_eq_true] at h ⊢
  obtain ⟨⟨⟨⟨⟨h1, h2⟩, h3⟩, h4⟩, h5⟩, h6⟩ := h
  unfold ioWrite
  split
  · exact ⟨⟨⟨⟨⟨memWf_memSetAll (by decide) _ _ h1, memWf_memSetAll (by decide) _ _ h2⟩,
      ioSetAll_io_wf _ h3⟩, h4⟩, h5⟩, displayWriteAll_vram_wf _ h6⟩
  · exact ⟨⟨⟨⟨⟨h1, h2⟩, ioSet_io_wf _ _ h3⟩, h4⟩, h5⟩, h6⟩

/-- A bus write keeps every memory in canonical form (R63), whatever instances the collaborators are. -/
theorem busWrite_memoriesWf (a : Word) (v : Byte) {s : State} (h : memoriesWf s = true) :
    memoriesWf (busWrite a v s) = true := by
  have hl := cellOf_lt s.wramBank a
  have hio := ioWrite_memoriesWf (lo8 a) v h
  unfold cellOf at hl
  unfold busWrite
  simp only [memoriesWf, Bool.and_eq_true] at h hio ⊢
  obtain ⟨⟨⟨⟨⟨h1, h2⟩, h3⟩, h4⟩, h5⟩, h6⟩ := h
  cases hr : regionOf a <;> simp only [hr, storeSize] at hl ⊢
  case cartRom =>
    have : (cartWrite a v s).cram = s.cram := if_pos (Or.inr (regionOf_cartRom hr))
    exact ⟨⟨⟨⟨⟨h1, h2⟩, h3⟩, h4⟩, this.symm ▸ h5⟩, h6⟩
  case cartRam =>
    refine ⟨⟨⟨⟨⟨h1, h2⟩, h3⟩, h4⟩, ?_⟩, h6⟩
    unfold cartWrite
    dsimp only
    split
    · exact h5
    · exact memWf_memSet _ _ hl h5
  case io => exact hio
  case display => exact ⟨⟨⟨⟨⟨h1, h2⟩, h3⟩, h4⟩, h5⟩, displayWrite_vram_wf v hl h6⟩
  case oam => exact ⟨⟨⟨⟨⟨h1, memWf_memSet _ _ hl h2⟩, h3⟩, h4⟩, h5⟩, h6⟩
  all_goals exact ⟨⟨⟨⟨⟨memWf_memSet _ _ hl h1, h2⟩, h3⟩, h4⟩, h5⟩, h6⟩

/-- So does a push: two bus writes (R82). -/
theorem push_memoriesWf (w : Word) {s : State} (h : memoriesWf s = true) : memoriesWf (push w s) = true := by
  unfold push; exact busWrite_memoriesWf _ _ (busWrite_memoriesWf _ _ h)

end Sys2Proof.Machine
end

