-- ==== Sys2Proof/Laws/Exec.lean ====
section
/-! SUPPORT. What `exec` can answer, said once: one shared operation of a family, applied to its operands. A rule about
every instruction is then a case analysis over the shared operations, not over the 511 instructions. -/

namespace Sys2Proof.Machine

/-- The shared operations a meaning is made of, as the answers they give on `s`. -/
inductive ExecForm (s : State) : Result → Prop where
  | load8 (dst src : Operand8) : ExecForm s (load8 dst src s)
  | loadImm8 (dst : Operand8) (n : Byte) : ExecForm s (loadImm8 dst n s)
  | storeA (length : Nat) (addr : Word) : ExecForm s (storeA length addr s)
  | loadA (length : Nat) (addr : Word) : ExecForm s (loadA length addr s)
  | storeAStep (delta : Word) : ExecForm s (storeAStep delta s)
  | loadAStep (delta : Word) : ExecForm s (loadAStep delta s)
  | loadPairImm (p : Pair) (nn : Word) : ExecForm s (loadPairImm p nn s)
  | storeSP (nn : Word) : ExecForm s (storeSP nn s)
  | loadSPFromHL : ExecForm s (loadSPFromHL s)
  | loadHLFromSPOffset (e : Int) : ExecForm s (loadHLFromSPOffset e s)
  | pushRegister (p : PairAF) : ExecForm s (pushRegister p s)
  | popRegister (p : PairAF) : ExecForm s (popRegister p s)
  | aluOperand (op : AluOp) (r : Operand8) : ExecForm s (aluOperand op r s)
  | aluImmediate (op : AluOp) (n : Byte) : ExecForm s (aluImmediate op n s)
  | increment8 (dst : Operand8) : ExecForm s (increment8 dst s)
  | decrement8 (dst : Operand8) : ExecForm s (decrement8 dst s)
  | decimalAdjust : ExecForm s (decimalAdjust s)
  | complementA : ExecForm s (complementA s)
  | setCarry : ExecForm s (setCarry s)
  | complementCarry : ExecForm s (complementCarry s)
  | addHL (p : Pair) : ExecForm s (addHL p s)
  | increment16 (p : Pair) : ExecForm s (increment16 p s)
  | decrement16 (p : Pair) : ExecForm s (decrement16 p s)
  | addSPOffset (e : Int) : ExecForm s (addSPOffset e s)
  | rotateA (r : Shifted) : ExecForm s (rotateA r s)
  | rotateOperand (op : RotOp) (r : Operand8) : ExecForm s (rotateOperand op r s)
  | testBit (b : Nat) (r : Operand8) : ExecForm s (testBit b r s)
  | resetBit (b : Nat) (r : Operand8) : ExecForm s (resetBit b r s)
  | setBit (b : Nat) (r : Operand8) : ExecForm s (setBit b r s)
  | jump (target : Word) : ExecForm s (jump target s)
  | jumpIf (cc : Cond) (nn : Word) : ExecForm s (jumpIf cc nn s)
  | jumpRelative (taken : Bool) (e : Int) : ExecForm s (jumpRelative taken e s)
  | call (taken : Bool) (nn : Word) : ExecForm s (call taken nn s)
  | ret (taken : Bool) : ExecForm s (ret taken s)
  | reti : ExecForm s (.next (returnFromInterrupt s))
  | restart (t : Nat) : ExecForm s (restart t s)
  | noOperation (length : Nat) : ExecForm s (noOperation length s)
  | haltCore : ExecForm s (haltCore s)
  | disableInterrupts : ExecForm s (disableInterrupts s)
  | enableInterrupts : ExecForm s (enableInterrupts s)
  | unknownOpcode (opcode : Byte) : ExecForm s (unknownOpcode opcode s)

/-- Every instruction's meaning is one of the shared operations. -/
theorem exec_form (s : State) : ∀ i : Instr, ExecForm s (exec i s)
  | .nop => .noOperation 1
  | .ldBCNn nn => .loadPairImm .bc nn
  | .ldAtBCA => .storeA 1 s.bc
  | .incBC => .increment16 .bc
  | .incB => .increment8 .b
  | .decB => .decrement8 .b
  | .ldBN n => .loadImm8 .b n
  | .rlca => .rotateA (rotLeftCircular s.a)
  | .ldAtNnSP nn => .storeSP nn
  | .addHLBC => .addHL .bc
  | .ldAAtBC => .loadA 1 s.bc
  | .decBC => .decrement16 .bc
  | .incC => .increment8 .c
  | .decC => .decrement8 .c
  | .ldCN n => .loadImm8 .c n
  | .rrca => .rotateA (rotRightCircular s.a)
  | .stopN _ => .noOperation 2
  | .ldDENn nn => .loadPairImm .de nn
  | .ldAtDEA => .storeA 1 s.de
  | .incDE => .increment16 .de
  | .incD => .increment8 .d
  | .decD => .decrement8 .d
  | .ldDN n => .loadImm8 .d n
  | .rla => .rotateA (rotLeftCarry s.a s.cf)
  | .jrE e => .jumpRelative true e
  | .addHLDE => .addHL .de
  | .ldAAtDE => .loadA 1 s.de
  | .decDE => .decrement16 .de
  | .incE => .increment8 .e
  | .decE => .decrement8 .e
  | .ldEN n => .loadImm8 .e n
  | .rra => .rotateA (rotRightCarry s.a s.cf)
  | .jrNZE e => .jumpRelative (cond .nz s) e
  | .ldHLNn nn => .loadPairImm .hl nn
  | .ldAtHLIncA => .storeAStep 1
  | .incHL => .increment16 .hl
  | .incH => .increment8 .h
  | .decH => .decrement8 .h
  | .ldHN n => .loadImm8 .h n
  | .daa => .decimalAdjust
  | .jrZE e => .jumpRelative (cond .z s) e
  | .addHLHL => .addHL .hl
  | .ldAAtHLInc => .loadAStep 1
  | .decHL => .decrement16 .hl
  | .incL => .increment8 .l
  | .decL => .decrement8 .l
  | .ldLN n => .loadImm8 .l n
  | .cpl => .complementA
  | .jrNCE e => .jumpRelative (cond .nc s) e
  | .ldSPNn nn => .loadPairImm .sp nn
  | .ldAtHLDecA => .storeAStep (-1)
  | .incSP => .increment16 .sp
  | .incAtHL => .increment8 .atHL
  | .decAtHL => .decrement8 .atHL
  | .ldAtHLN n => .loadImm8 .atHL n
  | .scf => .setCarry
  | .jrCE e => .jumpRelative (cond .c s) e
  | .addHLSP => .addHL .sp
  | .ldAAtHLDec => .loadAStep (-1)
  | .decSP => .decrement16 .sp
  | .incA => .increment8 .a
  | .decA => .decrement8 .a
  | .ldAN n => .loadImm8 .a n
  | .ccf => .complementCarry
  | .ldBB => .load8 .b .b
  | .ldBC => .load8 .b .c
  | .ldBD => .load8 .b .d
  | .ldBE => .load8 .b .e
  | .ldBH => .load8 .b .h
  | .ldBL => .load8 .b .l
  | .ldBAtHL => .load8 .b .atHL
  | .ldBA => .load8 .b .a
  | .ldCB => .load8 .c .b
  | .ldCC => .load8 .c .c
  | .ldCD => .load8 .c .d
  | .ldCE => .load8 .c .e
  | .ldCH => .load8 .c .h
  | .ldCL => .load8 .c .l
  | .ldCAtHL => .load8 .c .atHL
  | .ldCA => .load8 .c .a
  | .ldDB => .load8 .d .b
  | .ldDC => .load8 .d .c
  | .ldDD => .load8 .d .d
  | .ldDE => .load8 .d .e
  | .ldDH => .load8 .d .h
  | .ldDL => .load8 .d .l
  | .ldDAtHL => .load8 .d .atHL
  | .ldDA => .load8 .d .a
  | .ldEB => .load8 .e .b
  | .ldEC => .load8 .e .c
  | .ldED => .load8 .e .d
  | .ldEE => .load8 .e .e
  | .ldEH => .load8 .e .h
  | .ldEL => .load8 .e .l
  | .ldEAtHL => .load8 .e .atHL
  | .ldEA => .load8 .e .a
  | .ldHB => .load8 .h .b
  | .ldHC => .load8 .h .c
  | .ldHD => .load8 .h .d
  | .ldHE => .load8 .h .e
  | .ldHH => .load8 .h .h
  | .ldHL => .load8 .h .l
  | .ldHAtHL => .load8 .h .atHL
  | .ldHA => .load8 .h .a
  | .ldLB => .load8 .l .b
  | .ldLC => .load8 .l .c
  | .ldLD => .load8 .l .d
  | .ldLE => .load8 .l .e
  | .ldLH => .load8 .l .h
  | .ldLL => .load8 .l .l
  | .ldLAtHL => .load8 .l .atHL
  | .ldLA => .load8 .l .a
  | .ldAtHLB => .load8 .atHL .b
  | .ldAtHLC => .load8 .atHL .c
  | .ldAtHLD => .load8 .atHL .d
  | .ldAtHLE => .load8 .atHL .e
  | .ldAtHLH => .load8 .atHL .h
  | .ldAtHLL => .load8 .atHL .l
  | .halt => .haltCore
  | .ldAtHLA => .load8 .atHL .a
  | .ldAB => .load8 .a .b
  | .ldAC => .load8 .a .c
  | .ldAD => .load8 .a .d
  | .ldAE => .load8 .a .e
  | .ldAH => .load8 .a .h
  | .ldAL => .load8 .a .l
  | .ldAAtHL => .load8 .a .atHL
  | .ldAA => .load8 .a .a
  | .addAB => .aluOperand .add .b
  | .addAC => .aluOperand .add .c
  | .addAD => .aluOperand .add .d
  | .addAE => .aluOperand .add .e
  | .addAH => .aluOperand .add .h
  | .addAL => .aluOperand .add .l
  | .addAAtHL => .aluOperand .add .atHL
  | .addAA => .aluOperand .add .a
  | .adcAB => .aluOperand .adc .b
  | .adcAC => .aluOperand .adc .c
  | .adcAD => .aluOperand .adc .d
  | .adcAE => .aluOperand .adc .e
  | .adcAH => .aluOperand .adc .h
  | .adcAL => .aluOperand .adc .l
  | .adcAAtHL => .aluOperand .adc .atHL
  | .adcAA => .aluOperand .adc .a
  | .subB => .aluOperand .sub .b
  | .subC => .aluOperand .sub .c
  | .subD => .aluOperand .sub .d
  | .subE => .aluOperand .sub .e
  | .subH => .aluOperand .sub .h
  | .subL => .aluOperand .sub .l
  | .subAtHL => .aluOperand .sub .atHL
  | .subA => .aluOperand .sub .a
  | .sbcAB => .aluOperand .sbc .b
  | .sbcAC => .aluOperand .sbc .c
  | .sbcAD => .aluOperand .sbc .d
  | .sbcAE => .aluOperand .sbc .e
  | .sbcAH => .aluOperand .sbc .h
  | .sbcAL => .aluOperand .sbc .l
  | .sbcAAtHL => .aluOperand .sbc .atHL
  | .sbcAA => .aluOperand .sbc .a
  | .andB => .aluOperand .and .b
  | .andC => .aluOperand .and .c
  | .andD => .aluOperand .and .d
  | .andE => .aluOperand .and .e
  | .andH => .aluOperand .and .h
  | .andL => .aluOperand .and .l
  | .andAtHL => .aluOperand .and .atHL
  | .andA => .aluOperand .and .a
  | .xorB => .aluOperand .xor .b
  | .xorC => .aluOperand .xor .c
  | .xorD => .aluOperand .xor .d
  | .xorE => .aluOperand .xor .e
  | .xorH => .aluOperand .xor .h
  | .xorL => .aluOperand .xor .l
  | .xorAtHL => .aluOperand .xor .atHL
  | .xorA => .aluOperand .xor .a
  | .orB => .aluOperand .or .b
  | .orC => .aluOperand .or .c
  | .orD => .aluOperand .or .d
  | .orE => .aluOperand .or .e
  | .orH => .aluOperand .or .h
  | .orL => .aluOperand .or .l
  | .orAtHL => .aluOperand .or .atHL
  | .orA => .aluOperand .or .a
  | .cpB => .aluOperand .cp .b
  | .cpC => .aluOperand .cp .c
  | .cpD => .aluOperand .cp .d
  | .cpE => .aluOperand .cp .e
  | .cpH => .aluOperand .cp .h
  | .cpL => .aluOperand .cp .l
  | .cpAtHL => .aluOperand .cp .atHL
  | .cpA => .aluOperand .cp .a
  | .retNZ => .ret (cond .nz s)
  | .popBC => .popRegister .bc
  | .jpNZNn nn => .jumpIf .nz nn
  | .jpNn nn => .jump nn
  | .callNZNn nn => .call (cond .nz s) nn
  | .pushBC => .pushRegister .bc
  | .addAN n => .aluImmediate .add n
  | .rst00 => .restart 0
  | .retZ => .ret (cond .z s)
  | .ret => .ret true
  | .jpZNn nn => .jumpIf .z nn
  | .callZNn nn => .call (cond .z s) nn
  | .callNn nn => .call true nn
  | .adcAN n => .aluImmediate .adc n
  | .rst08 => .restart 1
  | .retNC => .ret (cond .nc s)
  | .popDE => .popRegister .de
  | .jpNCNn nn => .jumpIf .nc nn
  | .unknownD3 => .unknownOpcode 0xD3
  | .callNCNn nn => .call (cond .nc s) nn
  | .pushDE => .pushRegister .de
  | .subN n => .aluImmediate .sub n
  | .rst10 => .restart 2
  | .retC => .ret (cond .c s)
  | .reti => .reti
  | .jpCNn nn => .jumpIf .c nn
  | .unknownDB => .unknownOpcode 0xDB
  | .callCNn nn => .call (cond .c s) nn
  | .unknownDD => .unknownOpcode 0xDD
  | .sbcAN n => .aluImmediate .sbc n
  | .rst18 => .restart 3
  | .ldhAtNA n => .storeA 2 (highPage n)
  | .popHL => .popRegister .hl
  | .ldAtCA => .storeA 1 (highPage s.c)
  | .unknownE3 => .unknownOpcode 0xE3
  | .unknownE4 => .unknownOpcode 0xE4
  | .pushHL => .pushRegister .hl
  | .andN n => .aluImmediate .and n
  | .rst20 => .restart 4
  | .addSPE e => .addSPOffset e
  | .jpAtHL => .jump s.hl
  | .ldAtNnA nn => .storeA 3 nn
  | .unknownEB => .unknownOpcode 0xEB
  | .unknownEC => .unknownOpcode 0xEC
  | .unknownED => .unknownOpcode 0xED
  | .xorN n => .aluImmediate .xor n
  | .rst28 => .restart 5
  | .ldhAAtN n => .loadA 2 (highPage n)
  | .popAF => .popRegister .af
  | .ldAAtC => .loadA 1 (highPage s.c)
  | .di => .disableInterrupts
  | .unknownF4 => .unknownOpcode 0xF4
  | .pushAF => .pushRegister .af
  | .orN n => .aluImmediate .or n
  | .rst30 => .restart 6
  | .ldHLSPE e => .loadHLFromSPOffset e
  | .ldSPHL => .loadSPFromHL
  | .ldAAtNn nn => .loadA 3 nn
  | .ei => .enableInterrupts
  | .unknownFC => .unknownOpcode 0xFC
  | .unknownFD => .unknownOpcode 0xFD
  | .cpN n => .aluImmediate .cp n
  | .rst38 => .restart 7
  | .rlcB => .rotateOperand .rlc .b
  | .rlcC => .rotateOperand .rlc .c
  | .rlcD => .rotateOperand .rlc .d
  | .rlcE => .rotateOperand .rlc .e
  | .rlcH => .rotateOperand .rlc .h
  | .rlcL => .rotateOperand .rlc .l
  | .rlcAtHL => .rotateOperand .rlc .atHL
  | .rlcA => .rotateOperand .rlc .a
  | .rrcB => .rotateOperand .rrc .b
  | .rrcC => .rotateOperand .rrc .c
  | .rrcD => .rotateOperand .rrc .d
  | .rrcE => .rotateOperand .rrc .e
  | .rrcH => .rotateOperand .rrc .h
  | .rrcL => .rotateOperand .rrc .l
  | .rrcAtHL => .rotateOperand .rrc .atHL
  | .rrcA => .rotateOperand .rrc .a
  | .rlB => .rotateOperand .rl .b
  | .rlC => .rotateOperand .rl .c
  | .rlD => .rotateOperand .rl .d
  | .rlE => .rotateOperand .rl .e
  | .rlH => .rotateOperand .rl .h
  | .rlL => .rotateOperand .rl .l
  | .rlAtHL => .rotateOperand .rl .atHL
  | .rlA => .rotateOperand .rl .a
  | .rrB => .rotateOperand .rr .b
  | .rrC => .rotateOperand .rr .c
  | .rrD => .rotateOperand .rr .d
  | .rrE => .rotateOperand .rr .e
  | .rrH => .rotateOperand .rr .h
  | .rrL => .rotateOperand .rr .l
  | .rrAtHL => .rotateOperand .rr .atHL
  | .rrA => .rotateOperand .rr .a
  | .slaB => .rotateOperand .sla .b
  | .slaC => .rotateOperand .sla .c
  | .slaD => .rotateOperand .sla .d
  | .slaE => .rotateOperand .sla .e
  | .slaH => .rotateOperand .sla .h
  | .slaL => .rotateOperand .sla .l
  | .slaAtHL => .rotateOperand .sla .atHL
  | .slaA => .rotateOperand .sla .a
  | .sraB => .rotateOperand .sra .b
  | .sraC => .rotateOperand .sra .c
  | .sraD => .rotateOperand .sra .d
  | .sraE => .rotateOperand .sra .e
  | .sraH => .rotateOperand .sra .h
  | .sraL => .rotateOperand .sra .l
  | .sraAtHL => .rotateOperand .sra .atHL
  | .sraA => .rotateOperand .sra .a
  | .swapB => .rotateOperand .swap .b
  | .swapC => .rotateOperand .swap .c
  | .swapD => .rotateOperand .swap .d
  | .swapE => .rotateOperand .swap .e
  | .swapH => .rotateOperand .swap .h
  | .swapL => .rotateOperand .swap .l
  | .swapAtHL => .rotateOperand .swap .atHL
  | .swapA => .rotateOperand .swap .a
  | .srlB => .rotateOperand .srl .b
  | .srlC => .rotateOperand .srl .c
  | .srlD => .rotateOperand .srl .d
  | .srlE => .rotateOperand .srl .e
  | .srlH => .rotateOperand .srl .h
  | .srlL => .rotateOperand .srl .l
  | .srlAtHL => .rotateOperand .srl .atHL
  | .srlA => .rotateOperand .srl .a
  | .bit0B => .testBit 0 .b
  | .bit0C => .testBit 0 .c
  | .bit0D => .testBit 0 .d
  | .bit0E => .testBit 0 .e
  | .bit0H => .testBit 0 .h
  | .bit0L => .testBit 0 .l
  | .bit0AtHL => .testBit 0 .atHL
  | .bit0A => .testBit 0 .a
  | .bit1B => .testBit 1 .b
  | .bit1C => .testBit 1 .c
  | .bit1D => .testBit 1 .d
  | .bit1E => .testBit 1 .e
  | .bit1H => .testBit 1 .h
  | .bit1L => .testBit 1 .l
  | .bit1AtHL => .testBit 1 .atHL
  | .bit1A => .testBit 1 .a
  | .bit2B => .testBit 2 .b
  | .bit2C => .testBit 2 .c
  | .bit2D => .testBit 2 .d
  | .bit2E => .testBit 2 .e
  | .bit2H => .testBit 2 .h
  | .bit2L => .testBit 2 .l
  | .bit2AtHL => .testBit 2 .atHL
  | .bit2A => .testBit 2 .a
  | .bit3B => .testBit 3 .b
  | .bit3C => .testBit 3 .c
  | .bit3D => .testBit 3 .d
  | .bit3E => .testBit 3 .e
  | .bit3H => .testBit 3 .h
  | .bit3L => .testBit 3 .l
  | .bit3AtHL => .testBit 3 .atHL
  | .bit3A => .testBit 3 .a
  | .bit4B => .testBit 4 .b
  | .bit4C => .testBit 4 .c
  | .bit4D => .testBit 4 .d
  | .bit4E => .testBit 4 .e
  | .bit4H => .testBit 4 .h
  | .bit4L => .testBit 4 .l
  | .bit4AtHL => .testBit 4 .atHL
  | .bit4A => .testBit 4 .a
  | .bit5B => .testBit 5 .b
  | .bit5C => .testBit 5 .c
  | .bit5D => .testBit 5 .d
  | .bit5E => .testBit 5 .e
  | .bit5H => .testBit 5 .h
  | .bit5L => .testBit 5 .l
  | .bit5AtHL => .testBit 5 .atHL
  | .bit5A => .testBit 5 .a
  | .bit6B => .testBit 6 .b
  | .bit6C => .testBit 6 .c
  | .bit6D => .testBit 6 .d
  | .bit6E => .testBit 6 .e
  | .bit6H => .testBit 6 .h
  | .bit6L => .testBit 6 .l
  | .bit6AtHL => .testBit 6 .atHL
  | .bit6A => .testBit 6 .a
  | .bit7B => .testBit 7 .b
  | .bit7C => .testBit 7 .c
  | .bit7D => .testBit 7 .d
  | .bit7E => .testBit 7 .e
  | .bit7H => .testBit 7 .h
  | .bit7L => .testBit 7 .l
  | .bit7AtHL => .testBit 7 .atHL
  | .bit7A => .testBit 7 .a
  | .res0B => .resetBit 0 .b
  | .res0C => .resetBit 0 .c
  | .res0D => .resetBit 0 .d
  | .res0E => .resetBit 0 .e
  | .res0H => .resetBit 0 .h
  | .res0L => .resetBit 0 .l
  | .res0AtHL => .resetBit 0 .atHL
  | .res0A => .resetBit 0 .a
  | .res1B => .resetBit 1 .b
  | .res1C => .resetBit 1 .c
  | .res1D => .resetBit 1 .d
  | .res1E => .resetBit 1 .e
  | .res1H => .resetBit 1 .h
  | .res1L => .resetBit 1 .l
  | .res1AtHL => .resetBit 1 .atHL
  | .res1A => .resetBit 1 .a
  | .res2B => .resetBit 2 .b
  | .res2C => .resetBit 2 .c
  | .res2D => .resetBit 2 .d
  | .res2E => .resetBit 2 .e
  | .res2H => .resetBit 2 .h
  | .res2L => .resetBit 2 .l
  | .res2AtHL => .resetBit 2 .atHL
  | .res2A => .resetBit 2 .a
  | .res3B => .resetBit 3 .b
  | .res3C => .resetBit 3 .c
  | .res3D => .resetBit 3 .d
  | .res3E => .resetBit 3 .e
  | .res3H => .resetBit 3 .h
  | .res3L => .resetBit 3 .l
  | .res3AtHL => .resetBit 3 .atHL
  | .res3A => .resetBit 3 .a
  | .res4B => .resetBit 4 .b
  | .res4C => .resetBit 4 .c
  | .res4D => .resetBit 4 .d
  | .res4E => .resetBit 4 .e
  | .res4H => .resetBit 4 .h
  | .res4L => .resetBit 4 .l
  | .res4AtHL => .resetBit 4 .atHL
  | .res4A => .resetBit 4 .a
  | .res5B => .resetBit 5 .b
  | .res5C => .resetBit 5 .c
  | .res5D => .resetBit 5 .d
  | .res5E => .resetBit 5 .e
  | .res5H => .resetBit 5 .h
  | .res5L => .resetBit 5 .l
  | .res5AtHL => .resetBit 5 .atHL
  | .res5A => .resetBit 5 .a
  | .res6B => .resetBit 6 .b
  | .res6C => .resetBit 6 .c
  | .res6D => .resetBit 6 .d
  | .res6E => .resetBit 6 .e
  | .res6H => .resetBit 6 .h
  | .res6L => .resetBit 6 .l
  | .res6AtHL => .resetBit 6 .atHL
  | .res6A => .resetBit 6 .a
  | .res7B => .resetBit 7 .b
  | .res7C => .resetBit 7 .c
  | .res7D => .resetBit 7 .d
  | .res7E => .resetBit 7 .e
  | .res7H => .resetBit 7 .h
  | .res7L => .resetBit 7 .l
  | .res7AtHL => .resetBit 7 .atHL
  | .res7A => .resetBit 7 .a
  | .set0B => .setBit 0 .b
  | .set0C => .setBit 0 .c
  | .set0D => .setBit 0 .d
  | .set0E => .setBit 0 .e
  | .set0H => .setBit 0 .h
  | .set0L => .setBit 0 .l
  | .set0AtHL => .setBit 0 .atHL
  | .set0A => .setBit 0 .a
  | .set1B => .setBit 1 .b
  | .set1C => .setBit 1 .c
  | .set1D => .setBit 1 .d
  | .set1E => .setBit 1 .e
  | .set1H => .setBit 1 .h
  | .set1L => .setBit 1 .l
  | .set1AtHL => .setBit 1 .atHL
  | .set1A => .setBit 1 .a
  | .set2B => .setBit 2 .b
  | .set2C => .setBit 2 .c
  | .set2D => .setBit 2 .d
  | .set2E => .setBit 2 .e
  | .set2H => .setBit 2 .h
  | .set2L => .setBit 2 .l
  | .set2AtHL => .setBit 2 .atHL
  | .set2A => .setBit 2 .a
  | .set3B => .setBit 3 .b
  | .set3C => .setBit 3 .c
  | .set3D => .setBit 3 .d
  | .set3E => .setBit 3 .e
  | .set3H => .setBit 3 .h
  | .set3L => .setBit 3 .l
  | .set3AtHL => .setBit 3 .atHL
  | .set3A => .setBit 3 .a
  | .set4B => .setBit 4 .b
  | .set4C => .setBit 4 .c
  | .set4D => .setBit 4 .d
  | .set4E => .setBit 4 .e
  | .set4H => .setBit 4 .h
  | .set4L => .setBit 4 .l
  | .set4AtHL => .setBit 4 .atHL
  | .set4A => .setBit 4 .a
  | .set5B => .setBit 5 .b
  | .set5C => .setBit 5 .c
  | .set5D => .setBit 5 .d
  | .set5E => .setBit 5 .e
  | .set5H => .setBit 5 .h
  | .set5L => .setBit 5 .l
  | .set5AtHL => .setBit 5 .atHL
  | .set5A => .setBit 5 .a
  | .set6B => .setBit 6 .b
  | .set6C => .setBit 6 .c
  | .set6D => .setBit 6 .d
  | .set6E => .setBit 6 .e
  | .set6H => .setBit 6 .h
  | .set6L => .setBit 6 .l
  | .set6AtHL => .setBit 6 .atHL
  | .set6A => .setBit 6 .a
  | .set7B => .setBit 7 .b
  | .set7C => .setBit 7 .c
  | .set7D => .setBit 7 .d
  | .set7E => .setBit 7 .e
  | .set7H => .setBit 7 .h
  | .set7L => .setBit 7 .l
  | .set7AtHL => .setBit 7 .atHL
  | .set7A => .setBit 7 .a

end Sys2Proof.Machine
end

