-- ==== Sys2Proof/Laws/Flags.lean ====
section
/-! SUPPORT. The flags of a packed flag byte, and that its low nibble is zero (10_state.md R26). -/

namespace Sys2Proof.Machine

@[simp] theorem packFlags_bit7 (z n h c : Bool) : (packFlags z n h c)[7] = z := by revert z n h c; decide
@[simp] theorem packFlags_bit6 (z n h c : Bool) : (packFlags z n h c)[6] = n := by revert z n h c; decide
@[simp] theorem packFlags_bit5 (z n h c : Bool) : (packFlags z n h c)[5] = h := by revert z n h c; decide
@[simp] theorem packFlags_bit4 (z n h c : Bool) : (packFlags z n h c)[4] = c := by revert z n h c; decide
@[simp] theorem packFlags_low (z n h c : Bool) : packFlags z n h c &&& 0x0F = 0 := by revert z n h c; decide

@[simp] theorem setFlags_zf (z n h c : Option Bool) (s : State) : (setFlags z n h c s).zf = z.getD s.zf := packFlags_bit7 _ _ _ _
@[simp] theorem setFlags_nf (z n h c : Option Bool) (s : State) : (setFlags z n h c s).nf = n.getD s.nf := packFlags_bit6 _ _ _ _
@[simp] theorem setFlags_hf (z n h c : Option Bool) (s : State) : (setFlags z n h c s).hf = h.getD s.hf := packFlags_bit5 _ _ _ _
@[simp] theorem setFlags_cf (z n h c : Option Bool) (s : State) : (setFlags z n h c s).cf = c.getD s.cf := packFlags_bit4 _ _ _ _

end Sys2Proof.Machine
end

