-- ==== Sys2Proof/Laws/PerInstr.lean ====
section
/-! SUPPORT. A statement about every instruction as syntax, one lemma per constructor: the encoded form has 1 to 3 bytes,
as many as its opcode byte says (30_encoding.md R100). -/

namespace Sys2Proof.Laws.EncodedForm

/-- R100: the length is between 1 and 3 and a function of the opcode byte alone. -/
def lengthFits (i : Instr) : Bool :=
  decide (1 ≤ (encode i).length) && decide ((encode i).length ≤ 3) &&
    decide ((encode i).length = opcodeLength ((encode i).headD 0))

/-- The statement of the family. -/
def Statement (i : Instr) : Prop := lengthFits i = true

/-- How each lemma below is shown: from the bytes of the encoding. -/
theorem of_bytes {i : Instr} {b0 : Byte} {bs : List Byte} (k : Nat) (h : encode i = b0 :: bs) (hl : bs.length = k)
    (ho : opcodeLength b0 = k + 1) (hk : k ≤ 2) : Statement i := by
  have hn : (encode i).length = k + 1 := by rw [h, List.length_cons, hl]
  have hd : (encode i).headD 0 = b0 := by rw [h, List.headD_cons]
  unfold Statement lengthFits
  rw [hd, ho, hn]
  simp only [Bool.and_eq_true, decide_eq_true_eq, and_true]
  omega

theorem length_00 : opcodeLength 0x00 = 1 := rfl
theorem length_01 : opcodeLength 0x01 = 3 := rfl
theorem length_02 : opcodeLength 0x02 = 1 := rfl
theorem length_03 : opcodeLength 0x03 = 1 := rfl
theorem length_04 : opcodeLength 0x04 = 1 := rfl
theorem length_05 : opcodeLength 0x05 = 1 := rfl
theorem length_06 : opcodeLength 0x06 = 2 := rfl
theorem length_07 : opcodeLength 0x07 = 1 := rfl
theorem length_08 : opcodeLength 0x08 = 3 := rfl
theorem length_09 : opcodeLength 0x09 = 1 := rfl
theorem length_0A : opcodeLength 0x0A = 1 := rfl
theorem length_0B : opcodeLength 0x0B = 1 := rfl
theorem length_0C : opcodeLength 0x0C = 1 := rfl
theorem length_0D : opcodeLength 0x0D = 1 := rfl
theorem length_0E : opcodeLength 0x0E = 2 := rfl
theorem length_0F : opcodeLength 0x0F = 1 := rfl
theorem length_10 : opcodeLength 0x10 = 2 := rfl
theorem length_11 : opcodeLength 0x11 = 3 := rfl
theorem length_12 : opcodeLength 0x12 = 1 := rfl
theorem length_13 : opcodeLength 0x13 = 1 := rfl
theorem length_14 : opcodeLength 0x14 = 1 := rfl
theorem length_15 : opcodeLength 0x15 = 1 := rfl
theorem length_16 : opcodeLength 0x16 = 2 := rfl
theorem length_17 : opcodeLength 0x17 = 1 := rfl
theorem length_18 : opcodeLength 0x18 = 2 := rfl
theorem length_19 : opcodeLength 0x19 = 1 := rfl
theorem length_1A : opcodeLength 0x1A = 1 := rfl
theorem length_1B : opcodeLength 0x1B = 1 := rfl
theorem length_1C : opcodeLength 0x1C = 1 := rfl
theorem length_1D : opcodeLength 0x1D = 1 := rfl
theorem length_1E : opcodeLength 0x1E = 2 := rfl
theorem length_1F : opcodeLength 0x1F = 1 := rfl
theorem length_20 : opcodeLength 0x20 = 2 := rfl
theorem length_21 : opcodeLength 0x21 = 3 := rfl
theorem length_22 : opcodeLength 0x22 = 1 := rfl
theorem length_23 : opcodeLength 0x23 = 1 := rfl
theorem length_24 : opcodeLength 0x24 = 1 := rfl
theorem length_25 : opcodeLength 0x25 = 1 := rfl
theorem length_26 : opcodeLength 0x26 = 2 := rfl
theorem length_27 : opcodeLength 0x27 = 1 := rfl
theorem length_28 : opcodeLength 0x28 = 2 := rfl
theorem length_29 : opcodeLength 0x29 = 1 := rfl
theorem length_2A : opcodeLength 0x2A = 1 := rfl
theorem length_2B : opcodeLength 0x2B = 1 := rfl
theorem length_2C : opcodeLength 0x2C = 1 := rfl
theorem length_2D : opcodeLength 0x2D = 1 := rfl
theorem length_2E : opcodeLength 0x2E = 2 := rfl
theorem length_2F : opcodeLength 0x2F = 1 := rfl
theorem length_30 : opcodeLength 0x30 = 2 := rfl
theorem length_31 : opcodeLength 0x31 = 3 := rfl
theorem length_32 : opcodeLength 0x32 = 1 := rfl
theorem length_33 : opcodeLength 0x33 = 1 := rfl
theorem length_34 : opcodeLength 0x34 = 1 := rfl
theorem length_35 : opcodeLength 0x35 = 1 := rfl
theorem length_36 : opcodeLength 0x36 = 2 := rfl
theorem length_37 : opcodeLength 0x37 = 1 := rfl
theorem length_38 : opcodeLength 0x38 = 2 := rfl
theorem length_39 : opcodeLength 0x39 = 1 := rfl
theorem length_3A : opcodeLength 0x3A = 1 := rfl
theorem length_3B : opcodeLength 0x3B = 1 := rfl
theorem length_3C : opcodeLength 0x3C = 1 := rfl
theorem length_3D : opcodeLength 0x3D = 1 := rfl
theorem length_3E : opcodeLength 0x3E = 2 := rfl
theorem length_3F : opcodeLength 0x3F = 1 := rfl
theorem length_40 : opcodeLength 0x40 = 1 := rfl
theorem length_41 : opcodeLength 0x41 = 1 := rfl
theorem length_42 : opcodeLength 0x42 = 1 := rfl
theorem length_43 : opcodeLength 0x43 = 1 := rfl
theorem length_44 : opcodeLength 0x44 = 1 := rfl
theorem length_45 : opcodeLength 0x45 = 1 := rfl
theorem length_46 : opcodeLength 0x46 = 1 := rfl
theorem length_47 : opcodeLength 0x47 = 1 := rfl
theorem length_48 : opcodeLength 0x48 = 1 := rfl
theorem length_49 : opcodeLength 0x49 = 1 := rfl
theorem length_4A : opcodeLength 0x4A = 1 := rfl
theorem length_4B : opcodeLength 0x4B = 1 := rfl
theorem length_4C : opcodeLength 0x4C = 1 := rfl
theorem length_4D : opcodeLength 0x4D = 1 := rfl
theorem length_4E : opcodeLength 0x4E = 1 := rfl
theorem length_4F : opcodeLength 0x4F = 1 := rfl
theorem length_50 : opcodeLength 0x50 = 1 := rfl
theorem length_51 : opcodeLength 0x51 = 1 := rfl
theorem length_52 : opcodeLength 0x52 = 1 := rfl
theorem length_53 : opcodeLength 0x53 = 1 := rfl
theorem length_54 : opcodeLength 0x54 = 1 := rfl
theorem length_55 : opcodeLength 0x55 = 1 := rfl
theorem length_56 : opcodeLength 0x56 = 1 := rfl
theorem length_57 : opcodeLength 0x57 = 1 := rfl
theorem length_58 : opcodeLength 0x58 = 1 := rfl
theorem length_59 : opcodeLength 0x59 = 1 := rfl
theorem length_5A : opcodeLength 0x5A = 1 := rfl
theorem length_5B : opcodeLength 0x5B = 1 := rfl
theorem length_5C : opcodeLength 0x5C = 1 := rfl
theorem length_5D : opcodeLength 0x5D = 1 := rfl
theorem length_5E : opcodeLength 0x5E = 1 := rfl
theorem length_5F : opcodeLength 0x5F = 1 := rfl
theorem length_60 : opcodeLength 0x60 = 1 := rfl
theorem length_61 : opcodeLength 0x61 = 1 := rfl
theorem length_62 : opcodeLength 0x62 = 1 := rfl
theorem length_63 : opcodeLength 0x63 = 1 := rfl
theorem length_64 : opcodeLength 0x64 = 1 := rfl
theorem length_65 : opcodeLength 0x65 = 1 := rfl
theorem length_66 : opcodeLength 0x66 = 1 := rfl
theorem length_67 : opcodeLength 0x67 = 1 := rfl
theorem length_68 : opcodeLength 0x68 = 1 := rfl
theorem length_69 : opcodeLength 0x69 = 1 := rfl
theorem length_6A : opcodeLength 0x6A = 1 := rfl
theorem length_6B : opcodeLength 0x6B = 1 := rfl
theorem length_6C : opcodeLength 0x6C = 1 := rfl
theorem length_6D : opcodeLength 0x6D = 1 := rfl
theorem length_6E : opcodeLength 0x6E = 1 := rfl
theorem length_6F : opcodeLength 0x6F = 1 := rfl
theorem length_70 : opcodeLength 0x70 = 1 := rfl
theorem length_71 : opcodeLength 0x71 = 1 := rfl
theorem length_72 : opcodeLength 0x72 = 1 := rfl
theorem length_73 : opcodeLength 0x73 = 1 := rfl
theorem length_74 : opcodeLength 0x74 = 1 := rfl
theorem length_75 : opcodeLength 0x75 = 1 := rfl
theorem length_76 : opcodeLength 0x76 = 1 := rfl
theorem length_77 : opcodeLength 0x77 = 1 := rfl
theorem length_78 : opcodeLength 0x78 = 1 := rfl
theorem length_79 : opcodeLength 0x79 = 1 := rfl
theorem length_7A : opcodeLength 0x7A = 1 := rfl
theorem length_7B : opcodeLength 0x7B = 1 := rfl
theorem length_7C : opcodeLength 0x7C = 1 := rfl
theorem length_7D : opcodeLength 0x7D = 1 := rfl
theorem length_7E : opcodeLength 0x7E = 1 := rfl
theorem length_7F : opcodeLength 0x7F = 1 := rfl
theorem length_80 : opcodeLength 0x80 = 1 := rfl
theorem length_81 : opcodeLength 0x81 = 1 := rfl
theorem length_82 : opcodeLength 0x82 = 1 := rfl
theorem length_83 : opcodeLength 0x83 = 1 := rfl
theorem length_84 : opcodeLength 0x84 = 1 := rfl
theorem length_85 : opcodeLength 0x85 = 1 := rfl
theorem length_86 : opcodeLength 0x86 = 1 := rfl
theorem length_87 : opcodeLength 0x87 = 1 := rfl
theorem length_88 : opcodeLength 0x88 = 1 := rfl
theorem length_89 : opcodeLength 0x89 = 1 := rfl
theorem length_8A : opcodeLength 0x8A = 1 := rfl
theorem length_8B : opcodeLength 0x8B = 1 := rfl
theorem length_8C : opcodeLength 0x8C = 1 := rfl
theorem length_8D : opcodeLength 0x8D = 1 := rfl
theorem length_8E : opcodeLength 0x8E = 1 := rfl
theorem length_8F : opcodeLength 0x8F = 1 := rfl
theorem length_90 : opcodeLength 0x90 = 1 := rfl
theorem length_91 : opcodeLength 0x91 = 1 := rfl
theorem length_92 : opcodeLength 0x92 = 1 := rfl
theorem length_93 : opcodeLength 0x93 = 1 := rfl
theorem length_94 : opcodeLength 0x94 = 1 := rfl
theorem length_95 : opcodeLength 0x95 = 1 := rfl
theorem length_96 : opcodeLength 0x96 = 1 := rfl
theorem length_97 : opcodeLength 0x97 = 1 := rfl
theorem length_98 : opcodeLength 0x98 = 1 := rfl
theorem length_99 : opcodeLength 0x99 = 1 := rfl
theorem length_9A : opcodeLength 0x9A = 1 := rfl
theorem length_9B : opcodeLength 0x9B = 1 := rfl
theorem length_9C : opcodeLength 0x9C = 1 := rfl
theorem length_9D : opcodeLength 0x9D = 1 := rfl
theorem length_9E : opcodeLength 0x9E = 1 := rfl
theorem length_9F : opcodeLength 0x9F = 1 := rfl
theorem length_A0 : opcodeLength 0xA0 = 1 := rfl
theorem length_A1 : opcodeLength 0xA1 = 1 := rfl
theorem length_A2 : opcodeLength 0xA2 = 1 := rfl
theorem length_A3 : opcodeLength 0xA3 = 1 := rfl
theorem length_A4 : opcodeLength 0xA4 = 1 := rfl
theorem length_A5 : opcodeLength 0xA5 = 1 := rfl
theorem length_A6 : opcodeLength 0xA6 = 1 := rfl
theorem length_A7 : opcodeLength 0xA7 = 1 := rfl
theorem length_A8 : opcodeLength 0xA8 = 1 := rfl
theorem length_A9 : opcodeLength 0xA9 = 1 := rfl
theorem length_AA : opcodeLength 0xAA = 1 := rfl
theorem length_AB : opcodeLength 0xAB = 1 := rfl
theorem length_AC : opcodeLength 0xAC = 1 := rfl
theorem length_AD : opcodeLength 0xAD = 1 := rfl
theorem length_AE : opcodeLength 0xAE = 1 := rfl
theorem length_AF : opcodeLength 0xAF = 1 := rfl
theorem length_B0 : opcodeLength 0xB0 = 1 := rfl
theorem length_B1 : opcodeLength 0xB1 = 1 := rfl
theorem length_B2 : opcodeLength 0xB2 = 1 := rfl
theorem length_B3 : opcodeLength 0xB3 = 1 := rfl
theorem length_B4 : opcodeLength 0xB4 = 1 := rfl
theorem length_B5 : opcodeLength 0xB5 = 1 := rfl
theorem length_B6 : opcodeLength 0xB6 = 1 := rfl
theorem length_B7 : opcodeLength 0xB7 = 1 := rfl
theorem length_B8 : opcodeLength 0xB8 = 1 := rfl
theorem length_B9 : opcodeLength 0xB9 = 1 := rfl
theorem length_BA : opcodeLength 0xBA = 1 := rfl
theorem length_BB : opcodeLength 0xBB = 1 := rfl
theorem length_BC : opcodeLength 0xBC = 1 := rfl
theorem length_BD : opcodeLength 0xBD = 1 := rfl
theorem length_BE : opcodeLength 0xBE = 1 := rfl
theorem length_BF : opcodeLength 0xBF = 1 := rfl
theorem length_C0 : opcodeLength 0xC0 = 1 := rfl
theorem length_C1 : opcodeLength 0xC1 = 1 := rfl
theorem length_C2 : opcodeLength 0xC2 = 3 := rfl
theorem length_C3 : opcodeLength 0xC3 = 3 := rfl
theorem length_C4 : opcodeLength 0xC4 = 3 := rfl
theorem length_C5 : opcodeLength 0xC5 = 1 := rfl
theorem length_C6 : opcodeLength 0xC6 = 2 := rfl
theorem length_C7 : opcodeLength 0xC7 = 1 := rfl
theorem length_C8 : opcodeLength 0xC8 = 1 := rfl
theorem length_C9 : opcodeLength 0xC9 = 1 := rfl
theorem length_CA : opcodeLength 0xCA = 3 := rfl
theorem length_CC : opcodeLength 0xCC = 3 := rfl
theorem length_CD : opcodeLength 0xCD = 3 := rfl
theorem length_CE : opcodeLength 0xCE = 2 := rfl
theorem length_CF : opcodeLength 0xCF = 1 := rfl
theorem length_D0 : opcodeLength 0xD0 = 1 := rfl
theorem length_D1 : opcodeLength 0xD1 = 1 := rfl
theorem length_D2 : opcodeLength 0xD2 = 3 := rfl
theorem length_D3 : opcodeLength 0xD3 = 1 := rfl
theorem length_D4 : opcodeLength 0xD4 = 3 := rfl
theorem length_D5 : opcodeLength 0xD5 = 1 := rfl
theorem length_D6 : opcodeLength 0xD6 = 2 := rfl
theorem length_D7 : opcodeLength 0xD7 = 1 := rfl
theorem length_D8 : opcodeLength 0xD8 = 1 := rfl
theorem length_D9 : opcodeLength 0xD9 = 1 := rfl
theorem length_DA : opcodeLength 0xDA = 3 := rfl
theorem length_DB : opcodeLength 0xDB = 1 := rfl
theorem length_DC : opcodeLength 0xDC = 3 := rfl
theorem length_DD : opcodeLength 0xDD = 1 := rfl
theorem length_DE : opcodeLength 0xDE = 2 := rfl
theorem length_DF : opcodeLength 0xDF = 1 := rfl
theorem length_E0 : opcodeLength 0xE0 = 2 := rfl
theorem length_E1 : opcodeLength 0xE1 = 1 := rfl
theorem length_E2 : opcodeLength 0xE2 = 1 := rfl
theorem length_E3 : opcodeLength 0xE3 = 1 := rfl
theorem length_E4 : opcodeLength 0xE4 = 1 := rfl
theorem length_E5 : opcodeLength 0xE5 = 1 := rfl
theorem length_E6 : opcodeLength 0xE6 = 2 := rfl
theorem length_E7 : opcodeLength 0xE7 = 1 := rfl
theorem length_E8 : opcodeLength 0xE8 = 2 := rfl
theorem length_E9 : opcodeLength 0xE9 = 1 := rfl
theorem length_EA : opcodeLength 0xEA = 3 := rfl
theorem length_EB : opcodeLength 0xEB = 1 := rfl
theorem length_EC : opcodeLength 0xEC = 1 := rfl
theorem length_ED : opcodeLength 0xED = 1 := rfl
theorem length_EE : opcodeLength 0xEE = 2 := rfl
theorem length_EF : opcodeLength 0xEF = 1 := rfl
theorem length_F0 : opcodeLength 0xF0 = 2 := rfl
theorem length_F1 : opcodeLength 0xF1 = 1 := rfl
theorem length_F2 : opcodeLength 0xF2 = 1 := rfl
theorem length_F3 : opcodeLength 0xF3 = 1 := rfl
theorem length_F4 : opcodeLength 0xF4 = 1 := rfl
theorem length_F5 : opcodeLength 0xF5 = 1 := rfl
theorem length_F6 : opcodeLength 0xF6 = 2 := rfl
theorem length_F7 : opcodeLength 0xF7 = 1 := rfl
theorem length_F8 : opcodeLength 0xF8 = 2 := rfl
theorem length_F9 : opcodeLength 0xF9 = 1 := rfl
theorem length_FA : opcodeLength 0xFA = 3 := rfl
theorem length_FB : opcodeLength 0xFB = 1 := rfl
theorem length_FC : opcodeLength 0xFC = 1 := rfl
theorem length_FD : opcodeLength 0xFD = 1 := rfl
theorem length_FE : opcodeLength 0xFE = 2 := rfl
theorem length_FF : opcodeLength 0xFF = 1 := rfl
theorem length_CB : opcodeLength 0xCB = 2 := rfl

theorem nop : Statement .nop := of_bytes 0 rfl rfl length_00 (by decide)
theorem ldBCNn (nn : Word) : Statement (.ldBCNn nn) := of_bytes 2 rfl rfl length_01 (by decide)
theorem ldAtBCA : Statement .ldAtBCA := of_bytes 0 rfl rfl length_02 (by decide)
theorem incBC : Statement .incBC := of_bytes 0 rfl rfl length_03 (by decide)
theorem incB : Statement .incB := of_bytes 0 rfl rfl length_04 (by decide)
theorem decB : Statement .decB := of_bytes 0 rfl rfl length_05 (by decide)
theorem ldBN (n : Byte) : Statement (.ldBN n) := of_bytes 1 rfl rfl length_06 (by decide)
theorem rlca : Statement .rlca := of_bytes 0 rfl rfl length_07 (by decide)
theorem ldAtNnSP (nn : Word) : Statement (.ldAtNnSP nn) := of_bytes 2 rfl rfl length_08 (by decide)
theorem addHLBC : Statement .addHLBC := of_bytes 0 rfl rfl length_09 (by decide)
theorem ldAAtBC : Statement .ldAAtBC := of_bytes 0 rfl rfl length_0A (by decide)
theorem decBC : Statement .decBC := of_bytes 0 rfl rfl length_0B (by decide)
theorem incC : Statement .incC := of_bytes 0 rfl rfl length_0C (by decide)
theorem decC : Statement .decC := of_bytes 0 rfl rfl length_0D (by decide)
theorem ldCN (n : Byte) : Statement (.ldCN n) := of_bytes 1 rfl rfl length_0E (by decide)
theorem rrca : Statement .rrca := of_bytes 0 rfl rfl length_0F (by decide)
theorem stopN (n : Byte) : Statement (.stopN n) := of_bytes 1 rfl rfl length_10 (by decide)
theorem ldDENn (nn : Word) : Statement (.ldDENn nn) := of_bytes 2 rfl rfl length_11 (by decide)
theorem ldAtDEA : Statement .ldAtDEA := of_bytes 0 rfl rfl length_12 (by decide)
theorem incDE : Statement .incDE := of_bytes 0 rfl rfl length_13 (by decide)
theorem incD : Statement .incD := of_bytes 0 rfl rfl length_14 (by decide)
theorem decD : Statement .decD := of_bytes 0 rfl rfl length_15 (by decide)
theorem ldDN (n : Byte) : Statement (.ldDN n) := of_bytes 1 rfl rfl length_16 (by decide)
theorem rla : Statement .rla := of_bytes 0 rfl rfl length_17 (by decide)
theorem jrE (e : Int) : Statement (.jrE e) := of_bytes 1 rfl rfl length_18 (by decide)
theorem addHLDE : Statement .addHLDE := of_bytes 0 rfl rfl length_19 (by decide)
theorem ldAAtDE : Statement .ldAAtDE := of_bytes 0 rfl rfl length_1A (by decide)
theorem decDE : Statement .decDE := of_bytes 0 rfl rfl length_1B (by decide)
theorem incE : Statement .incE := of_bytes 0 rfl rfl length_1C (by decide)
theorem decE : Statement .decE := of_bytes 0 rfl rfl length_1D (by decide)
theorem ldEN (n : Byte) : Statement (.ldEN n) := of_bytes 1 rfl rfl length_1E (by decide)
theorem rra : Statement .rra := of_bytes 0 rfl rfl length_1F (by decide)
theorem jrNZE (e : Int) : Statement (.jrNZE e) := of_bytes 1 rfl rfl length_20 (by decide)
theorem ldHLNn (nn : Word) : Statement (.ldHLNn nn) := of_bytes 2 rfl rfl length_21 (by decide)
theorem ldAtHLIncA : Statement .ldAtHLIncA := of_bytes 0 rfl rfl length_22 (by decide)
theorem incHL : Statement .incHL := of_bytes 0 rfl rfl length_23 (by decide)
theorem incH : Statement .incH := of_bytes 0 rfl rfl length_24 (by decide)
theorem decH : Statement .decH := of_bytes 0 rfl rfl length_25 (by decide)
theorem ldHN (n : Byte) : Statement (.ldHN n) := of_bytes 1 rfl rfl length_26 (by decide)
theorem daa : Statement .daa := of_bytes 0 rfl rfl length_27 (by decide)
theorem jrZE (e : Int) : Statement (.jrZE e) := of_bytes 1 rfl rfl length_28 (by decide)
theorem addHLHL : Statement .addHLHL := of_bytes 0 rfl rfl length_29 (by decide)
theorem ldAAtHLInc : Statement .ldAAtHLInc := of_bytes 0 rfl rfl length_2A (by decide)
theorem decHL : Statement .decHL := of_bytes 0 rfl rfl length_2B (by decide)
theorem incL : Statement .incL := of_bytes 0 rfl rfl length_2C (by decide)
theorem decL : Statement .decL := of_bytes 0 rfl rfl length_2D (by decide)
theorem ldLN (n : Byte) : Statement (.ldLN n) := of_bytes 1 rfl rfl length_2E (by decide)
theorem cpl : Statement .cpl := of_bytes 0 rfl rfl length_2F (by decide)
theorem jrNCE (e : Int) : Statement (.jrNCE e) := of_bytes 1 rfl rfl length_30 (by decide)
theorem ldSPNn (nn : Word) : Statement (.ldSPNn nn) := of_bytes 2 rfl rfl length_31 (by decide)
theorem ldAtHLDecA : Statement .ldAtHLDecA := of_bytes 0 rfl rfl length_32 (by decide)
theorem incSP : Statement .incSP := of_bytes 0 rfl rfl length_33 (by decide)
theorem incAtHL : Statement .incAtHL := of_bytes 0 rfl rfl length_34 (by decide)
theorem decAtHL : Statement .decAtHL := of_bytes 0 rfl rfl length_35 (by decide)
theorem ldAtHLN (n : Byte) : Statement (.ldAtHLN n) := of_bytes 1 rfl rfl length_36 (by decide)
theorem scf : Statement .scf := of_bytes 0 rfl rfl length_37 (by decide)
theorem jrCE (e : Int) : Statement (.jrCE e) := of_bytes 1 rfl rfl length_38 (by decide)
theorem addHLSP : Statement .addHLSP := of_bytes 0 rfl rfl length_39 (by decide)
theorem ldAAtHLDec : Statement .ldAAtHLDec := of_bytes 0 rfl rfl length_3A (by decide)
theorem decSP : Statement .decSP := of_bytes 0 rfl rfl length_3B (by decide)
theorem incA : Statement .incA := of_bytes 0 rfl rfl length_3C (by decide)
theorem decA : Statement .decA := of_bytes 0 rfl rfl length_3D (by decide)
theorem ldAN (n : Byte) : Statement (.ldAN n) := of_bytes 1 rfl rfl length_3E (by decide)
theorem ccf : Statement .ccf := of_bytes 0 rfl rfl length_3F (by decide)
theorem ldBB : Statement .ldBB := of_bytes 0 rfl rfl length_40 (by decide)
theorem ldBC : Statement .ldBC := of_bytes 0 rfl rfl length_41 (by decide)
theorem ldBD : Statement .ldBD := of_bytes 0 rfl rfl length_42 (by decide)
theorem ldBE : Statement .ldBE := of_bytes 0 rfl rfl length_43 (by decide)
theorem ldBH : Statement .ldBH := of_bytes 0 rfl rfl length_44 (by decide)
theorem ldBL : Statement .ldBL := of_bytes 0 rfl rfl length_45 (by decide)
theorem ldBAtHL : Statement .ldBAtHL := of_bytes 0 rfl rfl length_46 (by decide)
theorem ldBA : Statement .ldBA := of_bytes 0 rfl rfl length_47 (by decide)
theorem ldCB : Statement .ldCB := of_bytes 0 rfl rfl length_48 (by decide)
theorem ldCC : Statement .ldCC := of_bytes 0 rfl rfl length_49 (by decide)
theorem ldCD : Statement .ldCD := of_bytes 0 rfl rfl length_4A (by decide)
theorem ldCE : Statement .ldCE := of_bytes 0 rfl rfl length_4B (by decide)
theorem ldCH : Statement .ldCH := of_bytes 0 rfl rfl length_4C (by decide)
theorem ldCL : Statement .ldCL := of_bytes 0 rfl rfl length_4D (by decide)
theorem ldCAtHL : Statement .ldCAtHL := of_bytes 0 rfl rfl length_4E (by decide)
theorem ldCA : Statement .ldCA := of_bytes 0 rfl rfl length_4F (by decide)
theorem ldDB : Statement .ldDB := of_bytes 0 rfl rfl length_50 (by decide)
theorem ldDC : Statement .ldDC := of_bytes 0 rfl rfl length_51 (by decide)
theorem ldDD : Statement .ldDD := of_bytes 0 rfl rfl length_52 (by decide)
theorem ldDE : Statement .ldDE := of_bytes 0 rfl rfl length_53 (by decide)
theorem ldDH : Statement .ldDH := of_bytes 0 rfl rfl length_54 (by decide)
theorem ldDL : Statement .ldDL := of_bytes 0 rfl rfl length_55 (by decide)
theorem ldDAtHL : Statement .ldDAtHL := of_bytes 0 rfl rfl length_56 (by decide)
theorem ldDA : Statement .ldDA := of_bytes 0 rfl rfl length_57 (by decide)
theorem ldEB : Statement .ldEB := of_bytes 0 rfl rfl length_58 (by decide)
theorem ldEC : Statement .ldEC := of_bytes 0 rfl rfl length_59 (by decide)
theorem ldED : Statement .ldED := of_bytes 0 rfl rfl length_5A (by decide)
theorem ldEE : Statement .ldEE := of_bytes 0 rfl rfl length_5B (by decide)
theorem ldEH : Statement .ldEH := of_bytes 0 rfl rfl length_5C (by decide)
theorem ldEL : Statement .ldEL := of_bytes 0 rfl rfl length_5D (by decide)
theorem ldEAtHL : Statement .ldEAtHL := of_bytes 0 rfl rfl length_5E (by decide)
theorem ldEA : Statement .ldEA := of_bytes 0 rfl rfl length_5F (by decide)
theorem ldHB : Statement .ldHB := of_bytes 0 rfl rfl length_60 (by decide)
theorem ldHC : Statement .ldHC := of_bytes 0 rfl rfl length_61 (by decide)
theorem ldHD : Statement .ldHD := of_bytes 0 rfl rfl length_62 (by decide)
theorem ldHE : Statement .ldHE := of_bytes 0 rfl rfl length_63 (by decide)
theorem ldHH : Statement .ldHH := of_bytes 0 rfl rfl length_64 (by decide)
theorem ldHL : Statement .ldHL := of_bytes 0 rfl rfl length_65 (by decide)
theorem ldHAtHL : Statement .ldHAtHL := of_bytes 0 rfl rfl length_66 (by decide)
theorem ldHA : Statement .ldHA := of_bytes 0 rfl rfl length_67 (by decide)
theorem ldLB : Statement .ldLB := of_bytes 0 rfl rfl length_68 (by decide)
theorem ldLC : Statement .ldLC := of_bytes 0 rfl rfl length_69 (by decide)
theorem ldLD : Statement .ldLD := of_bytes 0 rfl rfl length_6A (by decide)
theorem ldLE : Statement .ldLE := of_bytes 0 rfl rfl length_6B (by decide)
theorem ldLH : Statement .ldLH := of_bytes 0 rfl rfl length_6C (by decide)
theorem ldLL : Statement .ldLL := of_bytes 0 rfl rfl length_6D (by decide)
theorem ldLAtHL : Statement .ldLAtHL := of_bytes 0 rfl rfl length_6E (by decide)
theorem ldLA : Statement .ldLA := of_bytes 0 rfl rfl length_6F (by decide)
theorem ldAtHLB : Statement .ldAtHLB := of_bytes 0 rfl rfl length_70 (by decide)
theorem ldAtHLC : Statement .ldAtHLC := of_bytes 0 rfl rfl length_71 (by decide)
theorem ldAtHLD : Statement .ldAtHLD := of_bytes 0 rfl rfl length_72 (by decide)
theorem ldAtHLE : Statement .ldAtHLE := of_bytes 0 rfl rfl length_73 (by decide)
theorem ldAtHLH : Statement .ldAtHLH := of_bytes 0 rfl rfl length_74 (by decide)
theorem ldAtHLL : Statement .ldAtHLL := of_bytes 0 rfl rfl length_75 (by decide)
theorem halt : Statement .halt := of_bytes 0 rfl rfl length_76 (by decide)
theorem ldAtHLA : Statement .ldAtHLA := of_bytes 0 rfl rfl length_77 (by decide)
theorem ldAB : Statement .ldAB := of_bytes 0 rfl rfl length_78 (by decide)
theorem ldAC : Statement .ldAC := of_bytes 0 rfl rfl length_79 (by decide)
theorem ldAD : Statement .ldAD := of_bytes 0 rfl rfl length_7A (by decide)
theorem ldAE : Statement .ldAE := of_bytes 0 rfl rfl length_7B (by decide)
theorem ldAH : Statement .ldAH := of_bytes 0 rfl rfl length_7C (by decide)
theorem ldAL : Statement .ldAL := of_bytes 0 rfl rfl length_7D (by decide)
theorem ldAAtHL : Statement .ldAAtHL := of_bytes 0 rfl rfl length_7E (by decide)
theorem ldAA : Statement .ldAA := of_bytes 0 rfl rfl length_7F (by decide)
theorem addAB : Statement .addAB := of_bytes 0 rfl rfl length_80 (by decide)
theorem addAC : Statement .addAC := of_bytes 0 rfl rfl length_81 (by decide)
theorem addAD : Statement .addAD := of_bytes 0 rfl rfl length_82 (by decide)
theorem addAE : Statement .addAE := of_bytes 0 rfl rfl length_83 (by decide)
theorem addAH : Statement .addAH := of_bytes 0 rfl rfl length_84 (by decide)
theorem addAL : Statement .addAL := of_bytes 0 rfl rfl length_85 (by decide)
theorem addAAtHL : Statement .addAAtHL := of_bytes 0 rfl rfl length_86 (by decide)
theorem addAA : Statement .addAA := of_bytes 0 rfl rfl length_87 (by decide)
theorem adcAB : Statement .adcAB := of_bytes 0 rfl rfl length_88 (by decide)
theorem adcAC : Statement .adcAC := of_bytes 0 rfl rfl length_89 (by decide)
theorem adcAD : Statement .adcAD := of_bytes 0 rfl rfl length_8A (by decide)
theorem adcAE : Statement .adcAE := of_bytes 0 rfl rfl length_8B (by decide)
theorem adcAH : Statement .adcAH := of_bytes 0 rfl rfl length_8C (by decide)
theorem adcAL : Statement .adcAL := of_bytes 0 rfl rfl length_8D (by decide)
theorem adcAAtHL : Statement .adcAAtHL := of_bytes 0 rfl rfl length_8E (by decide)
theorem adcAA : Statement .adcAA := of_bytes 0 rfl rfl length_8F (by decide)
theorem subB : Statement .subB := of_bytes 0 rfl rfl length_90 (by decide)
theorem subC : Statement .subC := of_bytes 0 rfl rfl length_91 (by decide)
theorem subD : Statement .subD := of_bytes 0 rfl rfl length_92 (by decide)
theorem subE : Statement .subE := of_bytes 0 rfl rfl length_93 (by decide)
theorem subH : Statement .subH := of_bytes 0 rfl rfl length_94 (by decide)
theorem subL : Statement .subL := of_bytes 0 rfl rfl length_95 (by decide)
theorem subAtHL : Statement .subAtHL := of_bytes 0 rfl rfl length_96 (by decide)
theorem subA : Statement .subA := of_bytes 0 rfl rfl length_97 (by decide)
theorem sbcAB : Statement .sbcAB := of_bytes 0 rfl rfl length_98 (by decide)
theorem sbcAC : Statement .sbcAC := of_bytes 0 rfl rfl length_99 (by decide)
theorem sbcAD : Statement .sbcAD := of_bytes 0 rfl rfl length_9A (by decide)
theorem sbcAE : Statement .sbcAE := of_bytes 0 rfl rfl length_9B (by decide)
theorem sbcAH : Statement .sbcAH := of_bytes 0 rfl rfl length_9C (by decide)
theorem sbcAL : Statement .sbcAL := of_bytes 0 rfl rfl length_9D (by decide)
theorem sbcAAtHL : Statement .sbcAAtHL := of_bytes 0 rfl rfl length_9E (by decide)
theorem sbcAA : Statement .sbcAA := of_bytes 0 rfl rfl length_9F (by decide)
theorem andB : Statement .andB := of_bytes 0 rfl rfl length_A0 (by decide)
theorem andC : Statement .andC := of_bytes 0 rfl rfl length_A1 (by decide)
theorem andD : Statement .andD := of_bytes 0 rfl rfl length_A2 (by decide)
theorem andE : Statement .andE := of_bytes 0 rfl rfl length_A3 (by decide)
theorem andH : Statement .andH := of_bytes 0 rfl rfl length_A4 (by decide)
theorem andL : Statement .andL := of_bytes 0 rfl rfl length_A5 (by decide)
theorem andAtHL : Statement .andAtHL := of_bytes 0 rfl rfl length_A6 (by decide)
theorem andA : Statement .andA := of_bytes 0 rfl rfl length_A7 (by decide)
theorem xorB : Statement .xorB := of_bytes 0 rfl rfl length_A8 (by decide)
theorem xorC : Statement .xorC := of_bytes 0 rfl rfl length_A9 (by decide)
theorem xorD : Statement .xorD := of_bytes 0 rfl rfl length_AA (by decide)
theorem xorE : Statement .xorE := of_bytes 0 rfl rfl length_AB (by decide)
theorem xorH : Statement .xorH := of_bytes 0 rfl rfl length_AC (by decide)
theorem xorL : Statement .xorL := of_bytes 0 rfl rfl length_AD (by decide)
theorem xorAtHL : Statement .xorAtHL := of_bytes 0 rfl rfl length_AE (by decide)
theorem xorA : Statement .xorA := of_bytes 0 rfl rfl length_AF (by decide)
theorem orB : Statement .orB := of_bytes 0 rfl rfl length_B0 (by decide)
theorem orC : Statement .orC := of_bytes 0 rfl rfl length_B1 (by decide)
theorem orD : Statement .orD := of_bytes 0 rfl rfl length_B2 (by decide)
theorem orE : Statement .orE := of_bytes 0 rfl rfl length_B3 (by decide)
theorem orH : Statement .orH := of_bytes 0 rfl rfl length_B4 (by decide)
theorem orL : Statement .orL := of_bytes 0 rfl rfl length_B5 (by decide)
theorem orAtHL : Statement .orAtHL := of_bytes 0 rfl rfl length_B6 (by decide)
theorem orA : Statement .orA := of_bytes 0 rfl rfl length_B7 (by decide)
theorem cpB : Statement .cpB := of_bytes 0 rfl rfl length_B8 (by decide)
theorem cpC : Statement .cpC := of_bytes 0 rfl rfl length_B9 (by decide)
theorem cpD : Statement .cpD := of_bytes 0 rfl rfl length_BA (by decide)
theorem cpE : Statement .cpE := of_bytes 0 rfl rfl length_BB (by decide)
theorem cpH : Statement .cpH := of_bytes 0 rfl rfl length_BC (by decide)
theorem cpL : Statement .cpL := of_bytes 0 rfl rfl length_BD (by decide)
theorem cpAtHL : Statement .cpAtHL := of_bytes 0 rfl rfl length_BE (by decide)
theorem cpA : Statement .cpA := of_bytes 0 rfl rfl length_BF (by decide)
theorem retNZ : Statement .retNZ := of_bytes 0 rfl rfl length_C0 (by decide)
theorem popBC : Statement .popBC := of_bytes 0 rfl rfl length_C1 (by decide)
theorem jpNZNn (nn : Word) : Statement (.jpNZNn nn) := of_bytes 2 rfl rfl length_C2 (by decide)
theorem jpNn (nn : Word) : Statement (.jpNn nn) := of_bytes 2 rfl rfl length_C3 (by decide)
theorem callNZNn (nn : Word) : Statement (.callNZNn nn) := of_bytes 2 rfl rfl length_C4 (by decide)
theorem pushBC : Statement .pushBC := of_bytes 0 rfl rfl length_C5 (by decide)
theorem addAN (n : Byte) : Statement (.addAN n) := of_bytes 1 rfl rfl length_C6 (by decide)
theorem rst00 : Statement .rst00 := of_bytes 0 rfl rfl length_C7 (by decide)
theorem retZ : Statement .retZ := of_bytes 0 rfl rfl length_C8 (by decide)
theorem ret : Statement .ret := of_bytes 0 rfl rfl length_C9 (by decide)
theorem jpZNn (nn : Word) : Statement (.jpZNn nn) := of_bytes 2 rfl rfl length_CA (by decide)
theorem callZNn (nn : Word) : Statement (.callZNn nn) := of_bytes 2 rfl rfl length_CC (by decide)
theorem callNn (nn : Word) : Statement (.callNn nn) := of_bytes 2 rfl rfl length_CD (by decide)
theorem adcAN (n : Byte) : Statement (.adcAN n) := of_bytes 1 rfl rfl length_CE (by decide)
theorem rst08 : Statement .rst08 := of_bytes 0 rfl rfl length_CF (by decide)
theorem retNC : Statement .retNC := of_bytes 0 rfl rfl length_D0 (by decide)
theorem popDE : Statement .popDE := of_bytes 0 rfl rfl length_D1 (by decide)
theorem jpNCNn (nn : Word) : Statement (.jpNCNn nn) := of_bytes 2 rfl rfl length_D2 (by decide)
theorem unknownD3 : Statement .unknownD3 := of_bytes 0 rfl rfl length_D3 (by decide)
theorem callNCNn (nn : Word) : Statement (.callNCNn nn) := of_bytes 2 rfl rfl length_D4 (by decide)
theorem pushDE : Statement .pushDE := of_bytes 0 rfl rfl length_D5 (by decide)
theorem subN (n : Byte) : Statement (.subN n) := of_bytes 1 rfl rfl length_D6 (by decide)
theorem rst10 : Statement .rst10 := of_bytes 0 rfl rfl length_D7 (by decide)
theorem retC : Statement .retC := of_bytes 0 rfl rfl length_D8 (by decide)
theorem reti : Statement .reti := of_bytes 0 rfl rfl length_D9 (by decide)
theorem jpCNn (nn : Word) : Statement (.jpCNn nn) := of_bytes 2 rfl rfl length_DA (by decide)
theorem unknownDB : Statement .unknownDB := of_bytes 0 rfl rfl length_DB (by decide)
theorem callCNn (nn : Word) : Statement (.callCNn nn) := of_bytes 2 rfl rfl length_DC (by decide)
theorem unknownDD : Statement .unknownDD := of_bytes 0 rfl rfl length_DD (by decide)
theorem sbcAN (n : Byte) : Statement (.sbcAN n) := of_bytes 1 rfl rfl length_DE (by decide)
theorem rst18 : Statement .rst18 := of_bytes 0 rfl rfl length_DF (by decide)
theorem ldhAtNA (n : Byte) : Statement (.ldhAtNA n) := of_bytes 1 rfl rfl length_E0 (by decide)
theorem popHL : Statement .popHL := of_bytes 0 rfl rfl length_E1 (by decide)
theorem ldAtCA : Statement .ldAtCA := of_bytes 0 rfl rfl length_E2 (by decide)
theorem unknownE3 : Statement .unknownE3 := of_bytes 0 rfl rfl length_E3 (by decide)
theorem unknownE4 : Statement .unknownE4 := of_bytes 0 rfl rfl length_E4 (by decide)
theorem pushHL : Statement .pushHL := of_bytes 0 rfl rfl length_E5 (by decide)
theorem andN (n : Byte) : Statement (.andN n) := of_bytes 1 rfl rfl length_E6 (by decide)
theorem rst20 : Statement .rst20 := of_bytes 0 rfl rfl length_E7 (by decide)
theorem addSPE (e : Int) : Statement (.addSPE e) := of_bytes 1 rfl rfl length_E8 (by decide)
theorem jpAtHL : Statement .jpAtHL := of_bytes 0 rfl rfl length_E9 (by decide)
theorem ldAtNnA (nn : Word) : Statement (.ldAtNnA nn) := of_bytes 2 rfl rfl length_EA (by decide)
theorem unknownEB : Statement .unknownEB := of_bytes 0 rfl rfl length_EB (by decide)
theorem unknownEC : Statement .unknownEC := of_bytes 0 rfl rfl length_EC (by decide)
theorem unknownED : Statement .unknownED := of_bytes 0 rfl rfl length_ED (by decide)
theorem xorN (n : Byte) : Statement (.xorN n) := of_bytes 1 rfl rfl length_EE (by decide)
theorem rst28 : Statement .rst28 := of_bytes 0 rfl rfl length_EF (by decide)
theorem ldhAAtN (n : Byte) : Statement (.ldhAAtN n) := of_bytes 1 rfl rfl length_F0 (by decide)
theorem popAF : Statement .popAF := of_bytes 0 rfl rfl length_F1 (by decide)
theorem ldAAtC : Statement .ldAAtC := of_bytes 0 rfl rfl length_F2 (by decide)
theorem di : Statement .di := of_bytes 0 rfl rfl length_F3 (by decide)
theorem unknownF4 : Statement .unknownF4 := of_bytes 0 rfl rfl length_F4 (by decide)
theorem pushAF : Statement .pushAF := of_bytes 0 rfl rfl length_F5 (by decide)
theorem orN (n : Byte) : Statement (.orN n) := of_bytes 1 rfl rfl length_F6 (by decide)
theorem rst30 : Statement .rst30 := of_bytes 0 rfl rfl length_F7 (by decide)
theorem ldHLSPE (e : Int) : Statement (.ldHLSPE e) := of_bytes 1 rfl rfl length_F8 (by decide)
theorem ldSPHL : Statement .ldSPHL := of_bytes 0 rfl rfl length_F9 (by decide)
theorem ldAAtNn (nn : Word) : Statement (.ldAAtNn nn) := of_bytes 2 rfl rfl length_FA (by decide)
theorem ei : Statement .ei := of_bytes 0 rfl rfl length_FB (by decide)
theorem unknownFC : Statement .unknownFC := of_bytes 0 rfl rfl length_FC (by decide)
theorem unknownFD : Statement .unknownFD := of_bytes 0 rfl rfl length_FD (by decide)
theorem cpN (n : Byte) : Statement (.cpN n) := of_bytes 1 rfl rfl length_FE (by decide)
theorem rst38 : Statement .rst38 := of_bytes 0 rfl rfl length_FF (by decide)
theorem rlcB : Statement .rlcB := of_bytes 1 rfl rfl length_CB (by decide)
theorem rlcC : Statement .rlcC := of_bytes 1 rfl rfl length_CB (by decide)
theorem rlcD : Statement .rlcD := of_bytes 1 rfl rfl length_CB (by decide)
theorem rlcE : Statement .rlcE := of_bytes 1 rfl rfl length_CB (by decide)
theorem rlcH : Statement .rlcH := of_bytes 1 rfl rfl length_CB (by decide)
theorem rlcL : Statement .rlcL := of_bytes 1 rfl rfl length_CB (by decide)
theorem rlcAtHL : Statement .rlcAtHL := of_bytes 1 rfl rfl length_CB (by decide)
theorem rlcA : Statement .rlcA := of_bytes 1 rfl rfl length_CB (by decide)
theorem rrcB : Statement .rrcB := of_bytes 1 rfl rfl length_CB (by decide)
theorem rrcC : Statement .rrcC := of_bytes 1 rfl rfl length_CB (by decide)
theorem rrcD : Statement .rrcD := of_bytes 1 rfl rfl length_CB (by decide)
theorem rrcE : Statement .rrcE := of_bytes 1 rfl rfl length_CB (by decide)
theorem rrcH : Statement .rrcH := of_bytes 1 rfl rfl length_CB (by decide)
theorem rrcL : Statement .rrcL := of_bytes 1 rfl rfl length_CB (by decide)
theorem rrcAtHL : Statement .rrcAtHL := of_bytes 1 rfl rfl length_CB (by decide)
theorem rrcA : Statement .rrcA := of_bytes 1 rfl rfl length_CB (by decide)
theorem rlB : Statement .rlB := of_bytes 1 rfl rfl length_CB (by decide)
theorem rlC : Statement .rlC := of_bytes 1 rfl rfl length_CB (by decide)
theorem rlD : Statement .rlD := of_bytes 1 rfl rfl length_CB (by decide)
theorem rlE : Statement .rlE := of_bytes 1 rfl rfl length_CB (by decide)
theorem rlH : Statement .rlH := of_bytes 1 rfl rfl length_CB (by decide)
theorem rlL : Statement .rlL := of_bytes 1 rfl rfl length_CB (by decide)
theorem rlAtHL : Statement .rlAtHL := of_bytes 1 rfl rfl length_CB (by decide)
theorem rlA : Statement .rlA := of_bytes 1 rfl rfl length_CB (by decide)
theorem rrB : Statement .rrB := of_bytes 1 rfl rfl length_CB (by decide)
theorem rrC : Statement .rrC := of_bytes 1 rfl rfl length_CB (by decide)
theorem rrD : Statement .rrD := of_bytes 1 rfl rfl length_CB (by decide)
theorem rrE : Statement .rrE := of_bytes 1 rfl rfl length_CB (by decide)
theorem rrH : Statement .rrH := of_bytes 1 rfl rfl length_CB (by decide)
theorem rrL : Statement .rrL := of_bytes 1 rfl rfl length_CB (by decide)
theorem rrAtHL : Statement .rrAtHL := of_bytes 1 rfl rfl length_CB (by decide)
theorem rrA : Statement .rrA := of_bytes 1 rfl rfl length_CB (by decide)
theorem slaB : Statement .slaB := of_bytes 1 rfl rfl length_CB (by decide)
theorem slaC : Statement .slaC := of_bytes 1 rfl rfl length_CB (by decide)
theorem slaD : Statement .slaD := of_bytes 1 rfl rfl length_CB (by decide)
theorem slaE : Statement .slaE := of_bytes 1 rfl rfl length_CB (by decide)
theorem slaH : Statement .slaH := of_bytes 1 rfl rfl length_CB (by decide)
theorem slaL : Statement .slaL := of_bytes 1 rfl rfl length_CB (by decide)
theorem slaAtHL : Statement .slaAtHL := of_bytes 1 rfl rfl length_CB (by decide)
theorem slaA : Statement .slaA := of_bytes 1 rfl rfl length_CB (by decide)
theorem sraB : Statement .sraB := of_bytes 1 rfl rfl length_CB (by decide)
theorem sraC : Statement .sraC := of_bytes 1 rfl rfl length_CB (by decide)
theorem sraD : Statement .sraD := of_bytes 1 rfl rfl length_CB (by decide)
theorem sraE : Statement .sraE := of_bytes 1 rfl rfl length_CB (by decide)
theorem sraH : Statement .sraH := of_bytes 1 rfl rfl length_CB (by decide)
theorem sraL : Statement .sraL := of_bytes 1 rfl rfl length_CB (by decide)
theorem sraAtHL : Statement .sraAtHL := of_bytes 1 rfl rfl length_CB (by decide)
theorem sraA : Statement .sraA := of_bytes 1 rfl rfl length_CB (by decide)
theorem swapB : Statement .swapB := of_bytes 1 rfl rfl length_CB (by decide)
theorem swapC : Statement .swapC := of_bytes 1 rfl rfl length_CB (by decide)
theorem swapD : Statement .swapD := of_bytes 1 rfl rfl length_CB (by decide)
theorem swapE : Statement .swapE := of_bytes 1 rfl rfl length_CB (by decide)
theorem swapH : Statement .swapH := of_bytes 1 rfl rfl length_CB (by decide)
theorem swapL : Statement .swapL := of_bytes 1 rfl rfl length_CB (by decide)
theorem swapAtHL : Statement .swapAtHL := of_bytes 1 rfl rfl length_CB (by decide)
theorem swapA : Statement .swapA := of_bytes 1 rfl rfl length_CB (by decide)
theorem srlB : Statement .srlB := of_bytes 1 rfl rfl length_CB (by decide)
theorem srlC : Statement .srlC := of_bytes 1 rfl rfl length_CB (by decide)
theorem srlD : Statement .srlD := of_bytes 1 rfl rfl length_CB (by decide)
theorem srlE : Statement .srlE := of_bytes 1 rfl rfl length_CB (by decide)
theorem srlH : Statement .srlH := of_bytes 1 rfl rfl length_CB (by decide)
theorem srlL : Statement .srlL := of_bytes 1 rfl rfl length_CB (by decide)
theorem srlAtHL : Statement .srlAtHL := of_bytes 1 rfl rfl length_CB (by decide)
theorem srlA : Statement .srlA := of_bytes 1 rfl rfl length_CB (by decide)
theorem bit0B : Statement .bit0B := of_bytes 1 rfl rfl length_CB (by decide)
theorem bit0C : Statement .bit0C := of_bytes 1 rfl rfl length_CB (by decide)
theorem bit0D : Statement .bit0D := of_bytes 1 rfl rfl length_CB (by decide)
theorem bit0E : Statement .bit0E := of_bytes 1 rfl rfl length_CB (by decide)
theorem bit0H : Statement .bit0H := of_bytes 1 rfl rfl length_CB (by decide)
theorem bit0L : Statement .bit0L := of_bytes 1 rfl rfl length_CB (by decide)
theorem bit0AtHL : Statement .bit0AtHL := of_bytes 1 rfl rfl length_CB (by decide)
theorem bit0A : Statement .bit0A := of_bytes 1 rfl rfl length_CB (by decide)
theorem bit1B : Statement .bit1B := of_bytes 1 rfl rfl length_CB (by decide)
theorem bit1C : Statement .bit1C := of_bytes 1 rfl rfl length_CB (by decide)
theorem bit1D : Statement .bit1D := of_bytes 1 rfl rfl length_CB (by decide)
theorem bit1E : Statement .bit1E := of_bytes 1 rfl rfl length_CB (by decide)
theorem bit1H : Statement .bit1H := of_bytes 1 rfl rfl length_CB (by decide)
theorem bit1L : Statement .bit1L := of_bytes 1 rfl rfl length_CB (by decide)
theorem bit1AtHL : Statement .bit1AtHL := of_bytes 1 rfl rfl length_CB (by decide)
theorem bit1A : Statement .bit1A := of_bytes 1 rfl rfl length_CB (by decide)
theorem bit2B : Statement .bit2B := of_bytes 1 rfl rfl length_CB (by decide)
theorem bit2C : Statement .bit2C := of_bytes 1 rfl rfl length_CB (by decide)
theorem bit2D : Statement .bit2D := of_bytes 1 rfl rfl length_CB (by decide)
theorem bit2E : Statement .bit2E := of_bytes 1 rfl rfl length_CB (by decide)
theorem bit2H : Statement .bit2H := of_bytes 1 rfl rfl length_CB (by decide)
theorem bit2L : Statement .bit2L := of_bytes 1 rfl rfl length_CB (by decide)
theorem bit2AtHL : Statement .bit2AtHL := of_bytes 1 rfl rfl length_CB (by decide)
theorem bit2A : Statement .bit2A := of_bytes 1 rfl rfl length_CB (by decide)
theorem bit3B : Statement .bit3B := of_bytes 1 rfl rfl length_CB (by decide)
theorem bit3C : Statement .bit3C := of_bytes 1 rfl rfl length_CB (by decide)
theorem bit3D : Statement .bit3D := of_bytes 1 rfl rfl length_CB (by decide)
theorem bit3E : Statement .bit3E := of_bytes 1 rfl rfl length_CB (by decide)
theorem bit3H : Statement .bit3H := of_bytes 1 rfl rfl length_CB (by decide)
theorem bit3L : Statement .bit3L := of_bytes 1 rfl rfl length_CB (by decide)
theorem bit3AtHL : Statement .bit3AtHL := of_bytes 1 rfl rfl length_CB (by decide)
theorem bit3A : Statement .bit3A := of_bytes 1 rfl rfl length_CB (by decide)
theorem bit4B : Statement .bit4B := of_bytes 1 rfl rfl length_CB (by decide)
theorem bit4C : Statement .bit4C := of_bytes 1 rfl rfl length_CB (by decide)
theorem bit4D : Statement .bit4D := of_bytes 1 rfl rfl length_CB (by decide)
theorem bit4E : Statement .bit4E := of_bytes 1 rfl rfl length_CB (by decide)
theorem bit4H : Statement .bit4H := of_bytes 1 rfl rfl length_CB (by decide)
theorem bit4L : Statement .bit4L := of_bytes 1 rfl rfl length_CB (by decide)
theorem bit4AtHL : Statement .bit4AtHL := of_bytes 1 rfl rfl length_CB (by decide)
theorem bit4A : Statement .bit4A := of_bytes 1 rfl rfl length_CB (by decide)
theorem bit5B : Statement .bit5B := of_bytes 1 rfl rfl length_CB (by decide)
theorem bit5C : Statement .bit5C := of_bytes 1 rfl rfl length_CB (by decide)
theorem bit5D : Statement .bit5D := of_bytes 1 rfl rfl length_CB (by decide)
theorem bit5E : Statement .bit5E := of_bytes 1 rfl rfl length_CB (by decide)
theorem bit5H : Statement .bit5H := of_bytes 1 rfl rfl length_CB (by decide)
theorem bit5L : Statement .bit5L := of_bytes 1 rfl rfl length_CB (by decide)
theorem bit5AtHL : Statement .bit5AtHL := of_bytes 1 rfl rfl length_CB (by decide)
theorem bit5A : Statement .bit5A := of_bytes 1 rfl rfl length_CB (by decide)
theorem bit6B : Statement .bit6B := of_bytes 1 rfl rfl length_CB (by decide)
theorem bit6C : Statement .bit6C := of_bytes 1 rfl rfl length_CB (by decide)
theorem bit6D : Statement .bit6D := of_bytes 1 rfl rfl length_CB (by decide)
theorem bit6E : Statement .bit6E := of_bytes 1 rfl rfl length_CB (by decide)
theorem bit6H : Statement .bit6H := of_bytes 1 rfl rfl length_CB (by decide)
theorem bit6L : Statement .bit6L := of_bytes 1 rfl rfl length_CB (by decide)
theorem bit6AtHL : Statement .bit6AtHL := of_bytes 1 rfl rfl length_CB (by decide)
theorem bit6A : Statement .bit6A := of_bytes 1 rfl rfl length_CB (by decide)
theorem bit7B : Statement .bit7B := of_bytes 1 rfl rfl length_CB (by decide)
theorem bit7C : Statement .bit7C := of_bytes 1 rfl rfl length_CB (by decide)
theorem bit7D : Statement .bit7D := of_bytes 1 rfl rfl length_CB (by decide)
theorem bit7E : Statement .bit7E := of_bytes 1 rfl rfl length_CB (by decide)
theorem bit7H : Statement .bit7H := of_bytes 1 rfl rfl length_CB (by decide)
theorem bit7L : Statement .bit7L := of_bytes 1 rfl rfl length_CB (by decide)
theorem bit7AtHL : Statement .bit7AtHL := of_bytes 1 rfl rfl length_CB (by decide)
theorem bit7A : Statement .bit7A := of_bytes 1 rfl rfl length_CB (by decide)
theorem res0B : Statement .res0B := of_bytes 1 rfl rfl length_CB (by decide)
theorem res0C : Statement .res0C := of_bytes 1 rfl rfl length_CB (by decide)
theorem res0D : Statement .res0D := of_bytes 1 rfl rfl length_CB (by decide)
theorem res0E : Statement .res0E := of_bytes 1 rfl rfl length_CB (by decide)
theorem res0H : Statement .res0H := of_bytes 1 rfl rfl length_CB (by decide)
theorem res0L : Statement .res0L := of_bytes 1 rfl rfl length_CB (by decide)
theorem res0AtHL : Statement .res0AtHL := of_bytes 1 rfl rfl length_CB (by decide)
theorem res0A : Statement .res0A := of_bytes 1 rfl rfl length_CB (by decide)
theorem res1B : Statement .res1B := of_bytes 1 rfl rfl length_CB (by decide)
theorem res1C : Statement .res1C := of_bytes 1 rfl rfl length_CB (by decide)
theorem res1D : Statement .res1D := of_bytes 1 rfl rfl length_CB (by decide)
theorem res1E : Statement .res1E := of_bytes 1 rfl rfl length_CB (by decide)
theorem res1H : Statement .res1H := of_bytes 1 rfl rfl length_CB (by decide)
theorem res1L : Statement .res1L := of_bytes 1 rfl rfl length_CB (by decide)
theorem res1AtHL : Statement .res1AtHL := of_bytes 1 rfl rfl length_CB (by decide)
theorem res1A : Statement .res1A := of_bytes 1 rfl rfl length_CB (by decide)
theorem res2B : Statement .res2B := of_bytes 1 rfl rfl length_CB (by decide)
theorem res2C : Statement .res2C := of_bytes 1 rfl rfl length_CB (by decide)
theorem res2D : Statement .res2D := of_bytes 1 rfl rfl length_CB (by decide)
theorem res2E : Statement .res2E := of_bytes 1 rfl rfl length_CB (by decide)
theorem res2H : Statement .res2H := of_bytes 1 rfl rfl length_CB (by decide)
theorem res2L : Statement .res2L := of_bytes 1 rfl rfl length_CB (by decide)
theorem res2AtHL : Statement .res2AtHL := of_bytes 1 rfl rfl length_CB (by decide)
theorem res2A : Statement .res2A := of_bytes 1 rfl rfl length_CB (by decide)
theorem res3B : Statement .res3B := of_bytes 1 rfl rfl length_CB (by decide)
theorem res3C : Statement .res3C := of_bytes 1 rfl rfl length_CB (by decide)
theorem res3D : Statement .res3D := of_bytes 1 rfl rfl length_CB (by decide)
theorem res3E : Statement .res3E := of_bytes 1 rfl rfl length_CB (by decide)
theorem res3H : Statement .res3H := of_bytes 1 rfl rfl length_CB (by decide)
theorem res3L : Statement .res3L := of_bytes 1 rfl rfl length_CB (by decide)
theorem res3AtHL : Statement .res3AtHL := of_bytes 1 rfl rfl length_CB (by decide)
theorem res3A : Statement .res3A := of_bytes 1 rfl rfl length_CB (by decide)
theorem res4B : Statement .res4B := of_bytes 1 rfl rfl length_CB (by decide)
theorem res4C : Statement .res4C := of_bytes 1 rfl rfl length_CB (by decide)
theorem res4D : Statement .res4D := of_bytes 1 rfl rfl length_CB (by decide)
theorem res4E : Statement .res4E := of_bytes 1 rfl rfl length_CB (by decide)
theorem res4H : Statement .res4H := of_bytes 1 rfl rfl length_CB (by decide)
theorem res4L : Statement .res4L := of_bytes 1 rfl rfl length_CB (by decide)
theorem res4AtHL : Statement .res4AtHL := of_bytes 1 rfl rfl length_CB (by decide)
theorem res4A : Statement .res4A := of_bytes 1 rfl rfl length_CB (by decide)
theorem res5B : Statement .res5B := of_bytes 1 rfl rfl length_CB (by decide)
theorem res5C : Statement .res5C := of_bytes 1 rfl rfl length_CB (by decide)
theorem res5D : Statement .res5D := of_bytes 1 rfl rfl length_CB (by decide)
theorem res5E : Statement .res5E := of_bytes 1 rfl rfl length_CB (by decide)
theorem res5H : Statement .res5H := of_bytes 1 rfl rfl length_CB (by decide)
theorem res5L : Statement .res5L := of_bytes 1 rfl rfl length_CB (by decide)
theorem res5AtHL : Statement .res5AtHL := of_bytes 1 rfl rfl length_CB (by decide)
theorem res5A : Statement .res5A := of_bytes 1 rfl rfl length_CB (by decide)
theorem res6B : Statement .res6B := of_bytes 1 rfl rfl length_CB (by decide)
theorem res6C : Statement .res6C := of_bytes 1 rfl rfl length_CB (by decide)
theorem res6D : Statement .res6D := of_bytes 1 rfl rfl length_CB (by decide)
theorem res6E : Statement .res6E := of_bytes 1 rfl rfl length_CB (by decide)
theorem res6H : Statement .res6H := of_bytes 1 rfl rfl length_CB (by decide)
theorem res6L : Statement .res6L := of_bytes 1 rfl rfl length_CB (by decide)
theorem res6AtHL : Statement .res6AtHL := of_bytes 1 rfl rfl length_CB (by decide)
theorem res6A : Statement .res6A := of_bytes 1 rfl rfl length_CB (by decide)
theorem res7B : Statement .res7B := of_bytes 1 rfl rfl length_CB (by decide)
theorem res7C : Statement .res7C := of_bytes 1 rfl rfl length_CB (by decide)
theorem res7D : Statement .res7D := of_bytes 1 rfl rfl length_CB (by decide)
theorem res7E : Statement .res7E := of_bytes 1 rfl rfl length_CB (by decide)
theorem res7H : Statement .res7H := of_bytes 1 rfl rfl length_CB (by decide)
theorem res7L : Statement .res7L := of_bytes 1 rfl rfl length_CB (by decide)
theorem res7AtHL : Statement .res7AtHL := of_bytes 1 rfl rfl length_CB (by decide)
theorem res7A : Statement .res7A := of_bytes 1 rfl rfl length_CB (by decide)
theorem set0B : Statement .set0B := of_bytes 1 rfl rfl length_CB (by decide)
theorem set0C : Statement .set0C := of_bytes 1 rfl rfl length_CB (by decide)
theorem set0D : Statement .set0D := of_bytes 1 rfl rfl length_CB (by decide)
theorem set0E : Statement .set0E := of_bytes 1 rfl rfl length_CB (by decide)
theorem set0H : Statement .set0H := of_bytes 1 rfl rfl length_CB (by decide)
theorem set0L : Statement .set0L := of_bytes 1 rfl rfl length_CB (by decide)
theorem set0AtHL : Statement .set0AtHL := of_bytes 1 rfl rfl length_CB (by decide)
theorem set0A : Statement .set0A := of_bytes 1 rfl rfl length_CB (by decide)
theorem set1B : Statement .set1B := of_bytes 1 rfl rfl length_CB (by decide)
theorem set1C : Statement .set1C := of_bytes 1 rfl rfl length_CB (by decide)
theorem set1D : Statement .set1D := of_bytes 1 rfl rfl length_CB (by decide)
theorem set1E : Statement .set1E := of_bytes 1 rfl rfl length_CB (by decide)
theorem set1H : Statement .set1H := of_bytes 1 rfl rfl length_CB (by decide)
theorem set1L : Statement .set1L := of_bytes 1 rfl rfl length_CB (by decide)
theorem set1AtHL : Statement .set1AtHL := of_bytes 1 rfl rfl length_CB (by decide)
theorem set1A : Statement .set1A := of_bytes 1 rfl rfl length_CB (by decide)
theorem set2B : Statement .set2B := of_bytes 1 rfl rfl length_CB (by decide)
theorem set2C : Statement .set2C := of_bytes 1 rfl rfl length_CB (by decide)
theorem set2D : Statement .set2D := of_bytes 1 rfl rfl length_CB (by decide)
theorem set2E : Statement .set2E := of_bytes 1 rfl rfl length_CB (by decide)
theorem set2H : Statement .set2H := of_bytes 1 rfl rfl length_CB (by decide)
theorem set2L : Statement .set2L := of_bytes 1 rfl rfl length_CB (by decide)
theorem set2AtHL : Statement .set2AtHL := of_bytes 1 rfl rfl length_CB (by decide)
theorem set2A : Statement .set2A := of_bytes 1 rfl rfl length_CB (by decide)
theorem set3B : Statement .set3B := of_bytes 1 rfl rfl length_CB (by decide)
theorem set3C : Statement .set3C := of_bytes 1 rfl rfl length_CB (by decide)
theorem set3D : Statement .set3D := of_bytes 1 rfl rfl length_CB (by decide)
theorem set3E : Statement .set3E := of_bytes 1 rfl rfl length_CB (by decide)
theorem set3H : Statement .set3H := of_bytes 1 rfl rfl length_CB (by decide)
theorem set3L : Statement .set3L := of_bytes 1 rfl rfl length_CB (by decide)
theorem set3AtHL : Statement .set3AtHL := of_bytes 1 rfl rfl length_CB (by decide)
theorem set3A : Statement .set3A := of_bytes 1 rfl rfl length_CB (by decide)
theorem set4B : Statement .set4B := of_bytes 1 rfl rfl length_CB (by decide)
theorem set4C : Statement .set4C := of_bytes 1 rfl rfl length_CB (by decide)
theorem set4D : Statement .set4D := of_bytes 1 rfl rfl length_CB (by decide)
theorem set4E : Statement .set4E := of_bytes 1 rfl rfl length_CB (by decide)
theorem set4H : Statement .set4H := of_bytes 1 rfl rfl length_CB (by decide)
theorem set4L : Statement .set4L := of_bytes 1 rfl rfl length_CB (by decide)
theorem set4AtHL : Statement .set4AtHL := of_bytes 1 rfl rfl length_CB (by decide)
theorem set4A : Statement .set4A := of_bytes 1 rfl rfl length_CB (by decide)
theorem set5B : Statement .set5B := of_bytes 1 rfl rfl length_CB (by decide)
theorem set5C : Statement .set5C := of_bytes 1 rfl rfl length_CB (by decide)
theorem set5D : Statement .set5D := of_bytes 1 rfl rfl length_CB (by decide)
theorem set5E : Statement .set5E := of_bytes 1 rfl rfl length_CB (by decide)
theorem set5H : Statement .set5H := of_bytes 1 rfl rfl length_CB (by decide)
theorem set5L : Statement .set5L := of_bytes 1 rfl rfl length_CB (by decide)
theorem set5AtHL : Statement .set5AtHL := of_bytes 1 rfl rfl length_CB (by decide)
theorem set5A : Statement .set5A := of_bytes 1 rfl rfl length_CB (by decide)
theorem set6B : Statement .set6B := of_bytes 1 rfl rfl length_CB (by decide)
theorem set6C : Statement .set6C := of_bytes 1 rfl rfl length_CB (by decide)
theorem set6D : Statement .set6D := of_bytes 1 rfl rfl length_CB (by decide)
theorem set6E : Statement .set6E := of_bytes 1 rfl rfl length_CB (by decide)
theorem set6H : Statement .set6H := of_bytes 1 rfl rfl length_CB (by decide)
theorem set6L : Statement .set6L := of_bytes 1 rfl rfl length_CB (by decide)
theorem set6AtHL : Statement .set6AtHL := of_bytes 1 rfl rfl length_CB (by decide)
theorem set6A : Statement .set6A := of_bytes 1 rfl rfl length_CB (by decide)
theorem set7B : Statement .set7B := of_bytes 1 rfl rfl length_CB (by decide)
theorem set7C : Statement .set7C := of_bytes 1 rfl rfl length_CB (by decide)
theorem set7D : Statement .set7D := of_bytes 1 rfl rfl length_CB (by decide)
theorem set7E : Statement .set7E := of_bytes 1 rfl rfl length_CB (by decide)
theorem set7H : Statement .set7H := of_bytes 1 rfl rfl length_CB (by decide)
theorem set7L : Statement .set7L := of_bytes 1 rfl rfl length_CB (by decide)
theorem set7AtHL : Statement .set7AtHL := of_bytes 1 rfl rfl length_CB (by decide)
theorem set7A : Statement .set7A := of_bytes 1 rfl rfl length_CB (by decide)

end Sys2Proof.Laws.EncodedForm
end

