-- ==== Sys2Proof/Laws/Step.lean ====
section
/-! SUPPORT. What a step can do, said once. -/

namespace Sys2Proof.Machine

/-- With the reference display the frame is always ready and the core never held (20_memory.md R73). -/
theorem held_reference {s : State} (h : s.params.display = .reference) : held s = false := by simp [held, frameReady, h]

/-- With a supplied display the host's signal says when the frame is ready (R72, R338). -/
theorem held_supplied {s : State} (h : s.params.display = .supplied) : held s = (s.frameHold && !s.frameComposed) := by
  simp [held, frameReady, h]

/-- A step that answers a next state either stayed in the frame wait or dispatched and ran the phases after it. -/
theorem step_cases {s t : State} (h : step s = .next t) :
    (held s = true ∧ t = s) ∨
      (held s = false ∧ ∃ u, dispatchPhase (release s) = .next u ∧ t = afterDispatch u) := by
  unfold step at h
  split at h
  · next hh => exact .inl ⟨hh, by injection h with h; exact h.symm⟩
  · next hh =>
    refine .inr ⟨by simpa using hh, ?_⟩
    split at h
    · next u hu => exact ⟨u, hu, by injection h with h; exact h.symm⟩
    · cases h
    · cases h

/-- The dispatch phase either does nothing, when halted, or runs the fetched instruction. -/
theorem dispatchPhase_cases {s u : State} (h : dispatchPhase s = .next u) :
    (s.halted = true ∧ u = s) ∨ (s.halted = false ∧ exec (fetchInstr s) s = .next u) := by
  unfold dispatchPhase at h
  split at h
  · next hh => exact .inl ⟨hh, by injection h with h; exact h.symm⟩
  · next hh => exact .inr ⟨by simpa using hh, h⟩

end Sys2Proof.Machine
end

