-- ==== Sys2Proof/Machine/HostOps.lean ====
section
/-! DEFINITION. What the host can do to the core between two steps (60_exceptions.md R345, R304, R308, R315; 20_memory.md
R68, R69). `step` itself takes no outside event: these are the inputs of a run, applied between its steps. -/

namespace Sys2Proof.Machine

/-- `reset()` (R345, R360): every element at its reset value; the parameters and the reference cartridge's image are not
the core's to change, and a supplied collaborator goes to what its own reset gives. -/
def hostReset (s : State) : State := State.resetWith s.params s.rom

/-- The loop of `run`: until the steps are consumed or termination is requested, tested between steps (R304). -/
def runLoop : Nat → State → Result
  | 0, s => .next s
  | n + 1, s =>
    if s.terminate then .next s
    else
      match step s with
      | .next t => runLoop n t
      | .fault r => .fault r
      | .refused r => .refused r

/-- `run(max_steps)` (R345): clears the termination flag, then loops. -/
def run (maxSteps : Nat) (s : State) : Result := runLoop maxSteps { s with terminate := false }

/-- The `terminate` flag (R41, R304). -/
def hostTerminate (s : State) : State := { s with terminate := true }

/-- The `frame_composed` input (R338, R345). -/
def hostFrameComposed (v : Bool) (s : State) : State := { s with frameComposed := v }

/-- The double-speed switch (R34, R345). -/
def hostDoubleSpeed (v : Bool) (s : State) : State := { s with doubleSpeed := v }

/-- The host inputs that a supplied I/O handler reads (R74), such as the buttons. -/
def hostIoInput (v : CollabState) (s : State) : State := { s with ioInput := v }

/-- `triggerInterrupt(serial)` (R315, R345). -/
def hostSerial (s : State) : State := triggerInterrupt .serial s

/-- `triggerInterrupt(input)` (R315, R345). -/
def hostInput (s : State) : State := triggerInterrupt .input s

/-- Register accessor by index (R24, R345). -/
def hostReadRegister (r : Operand8) (s : State) : Byte := readR8 r s

/-- Register accessor by index (R24, R345). -/
def hostWriteRegister (r : Operand8) (v : Byte) (s : State) : State := writeR8 r v s

/-- Register accessor by pair (R22, R345). -/
def hostReadPair (p : Pair) (s : State) : Word := readPair p s

/-- Register accessor by pair (R22, R345). -/
def hostWritePair (p : Pair) (w : Word) (s : State) : State := writePair p w s

/-- Memory accessor, read (R345), with the decode anomaly of a wider address (R68). -/
def hostReadMemory (a : Nat) (s : State) : Byte × State := busReadWide a s

/-- Memory accessor, write (R345): a bus write, but a raw poke of the cartridge in the ROM window, since the machine is
not running (R69). -/
def hostWriteMemory (a : Nat) (v : Byte) (s : State) : State :=
  if a < 0x8000 then cartDebugWrite (BitVec.ofNat 16 a) v s else busWriteWide a v s

end Sys2Proof.Machine
end

