-- ==== Sys2Proof/Tests/Slice0.lean ====
section
/-! SUPPORT. Tests of the model, each expected result taken from the spec: the words of 30_encoding.md, the vectors of
95_test_vectors.md (a test named after the vector's number), the rules of 60_exceptions.md. After them, for every claim with
hypotheses, a state and operands that meet them. -/

namespace Sys2Proof.Tests

open Sys2Proof Sys2Proof.Machine Sys2Proof.Claims

/-! ### A small machine: the reset state of 95_test_vectors.md, with `IO_RESET` all zero -/

def params : Params := ⟨false, 8, 4, 4, 4, 4, 1000, 144, 153, true, .reference, .reference, .reference⟩

def base : State :=
  { State.resetWith params [] with
    pc := 0x0150, timerEnabled := false, timaRate := 0, div := 0, tima := 0, tma := 0, tac := 0, ifReg := 0, lcdc := 0
    stat := 0, ly := 0, lyc := 0, ieReg := 0 }

/-- The ENHANCED machine with bank 3 selected. -/
def banked : State := { base with params := { params with enhanced := true }, wramBank := 3 }

/-- `base` with all three collaborators supplied from outside. -/
def supplied : State :=
  { base with params := { params with cartridge := .supplied, display := .supplied, ioHandler := .supplied } }

/-- `base` with a supplied display, in the frame wait. -/
def waiting : State := { base with params := { params with display := .supplied }, frameHold := true }

/-- `s` with the cells stored raw. -/
def stored (cells : List (Word × Byte)) (s : State) : State := cells.foldl (fun u c => poke c.1 c.2 u) s

/-- The property of the state an answer holds; false of a stop. -/
def answers (r : Result) (p : State → Bool) : Bool :=
  match r with
  | .next t => p t
  | .fault _ => false
  | .refused _ => false

theorem of_answers {r : Result} {p : State → Bool} (h : answers r p = true) : ∃ t, r = .next t ∧ p t = true := by
  cases r with
  | next t => exact ⟨t, rfl, h⟩
  | fault r => cases h
  | refused r => cases h

/-- One dispatch from `s` with the cells stored: what holds of the states before and after. -/
def runs (cells : List (Word × Byte)) (s : State) (p : State → State → Bool) : Bool :=
  answers (exec (fetchInstr (stored cells s)) (stored cells s)) (p (stored cells s))

/-- One whole step from `s` with the cells stored. -/
def steps (cells : List (Word × Byte)) (s : State) (p : State → Bool) : Bool := answers (step (stored cells s)) p

/-! ### Well-formedness: the one check refuses offsets a byte cannot hold -/

theorem test_ill_formed_above :
    [Instr.jrE 128, .jrNZE 128, .jrZE 128, .jrNCE 128, .jrCE 128, .addSPE 128, .ldHLSPE 128].all (fun i => !WellFormed i) = true := by
  decide

theorem test_ill_formed_below :
    [Instr.jrE (-129), .jrNZE (-129), .jrZE (-129), .jrNCE (-129), .jrCE (-129), .addSPE (-129), .ldHLSPE (-129)].all
      (fun i => !WellFormed i) = true := by
  decide

theorem test_well_formed :
    [Instr.jrE (-128), .jrE 127, .addSPE 0, .nop, .ldHLNn 0xFFFF, .stopN 0xFF].all (fun i => WellFormed i) = true := by decide

/-! ### Words written out from 30_encoding.md -/

theorem test_decode_load_block : decode 0b01000111 0 0 = .ldBA ∧ decode 0b01110101 0 0 = .ldAtHLL ∧ decode 0b01101110 0 0 = .ldLAtHL := by
  decide
theorem test_decode_load_immediate : decode 0b00011110 0x9C 0 = .ldEN 0x9C ∧ decode 0b00110110 0x9C 0 = .ldAtHLN 0x9C := by decide
theorem test_decode_load_accumulator :
    decode 0xEA 0x34 0xC2 = .ldAtNnA 0xC234 ∧ decode 0xF2 0 0 = .ldAAtC ∧ decode 0xE0 0x0F 0 = .ldhAtNA 0x0F ∧ decode 0x3A 0 0 = .ldAAtHLDec := by
  decide
theorem test_decode_pairs : decode 0b00010001 0x01 0x02 = .ldDENn 0x0201 ∧ decode 0b11110001 0 0 = .popAF ∧ decode 0b11010101 0 0 = .pushDE := by
  decide
theorem test_decode_alu_block : decode 0b10111110 0 0 = .cpAtHL ∧ decode 0b10011001 0 0 = .sbcAC ∧ decode 0b11101110 0x0F 0 = .xorN 0x0F := by
  decide
theorem test_decode_increments : decode 0b00101100 0 0 = .incL ∧ decode 0b00110101 0 0 = .decAtHL ∧ decode 0b00111011 0 0 = .decSP := by decide
theorem test_decode_adjust : decode 0x27 0 0 = .daa ∧ decode 0x2F 0 0 = .cpl ∧ decode 0x37 0 0 = .scf ∧ decode 0x3F 0 0 = .ccf := by decide
theorem test_decode_add_hl : decode 0b00101001 0 0 = .addHLHL ∧ decode 0xF8 0x80 0 = .ldHLSPE (-128) := by decide
theorem test_decode_rotates : decode 0xCB 0b00101110 0 = .sraAtHL ∧ decode 0xCB 0b00011010 0 = .rrD ∧ decode 0x0F 0 0 = .rrca := by decide
theorem test_decode_bits :
    decode 0xCB 0b01111100 0 = .bit7H ∧ decode 0xCB 0b10000110 0 = .res0AtHL ∧ decode 0xCB 0b11101001 0 = .set5C := by decide
theorem test_decode_control :
    decode 0xCA 0x00 0x02 = .jpZNn 0x0200 ∧ decode 0x38 0xFB 0 = .jrCE (-5) ∧ decode 0xD4 0x00 0x02 = .callNCNn 0x0200 ∧
      decode 0xC8 0 0 = .retZ ∧ decode 0xD9 0 0 = .reti ∧ decode 0b11110111 0 0 = .rst30 := by
  decide
theorem test_decode_system : decode 0x10 0x5A 0 = .stopN 0x5A ∧ decode 0x76 0 0 = .halt ∧ decode 0xF3 0 0 = .di ∧ decode 0xFC 0 0 = .unknownFC := by
  decide

theorem test_decode_bytes_takes_its_length :
    decodeBytes [0x21, 0x00, 0xC0, 0x76] = .ok (.ldHLNn 0xC000, [0x76]) ∧ decodeBytes [0x21, 0x00] = .error (.truncated 0x21) ∧
      decodeBytes [] = .error .empty := by
  decide
theorem test_table_words :
    decodeTableWord 8 0x21 = some (.ldHLNn 0) ∧ decodeTableWord 16 0xCB37 = some .swapA ∧ decodeTableWord 16 0x423E = some (.ldAN 0x42) := by
  decide
theorem test_placed_word_runs : answers (step (base.withFetchWord 16 0x423E)) (fun t => t.a == 0x42 && t.pc == 0x0152) = true := by decide
theorem test_reset_runs_a_placed_word : answers (step (State.reset.withFetchWord 8 0x3C)) (fun _ => true) = true := by decide

/-! ### Vectors of 95_test_vectors.md, one dispatch each -/

theorem test_L1 :
    runs [(0x0150, 0x41)] ({ base with b := 0x12, c := 0x34 }) (fun _ t => t.f == 0xB0 && t.b == 0x34 && t.pc == 0x0151) = true := by decide
theorem test_L4 :
    runs [(0x0150, 0x6C)] ({ base with h := 0x12, l := 0x34 }) (fun _ t => t.f == 0xB0 && t.l == 0x12 && t.pc == 0x0151) = true := by decide
theorem test_L6 :
    runs [(0x0150, 0x7E), (0xC000, 0x5A)] ({ base with h := 0xC0, l := 0x00 }) (fun _ t => t.a == 0x5A && t.f == 0xB0 && t.pc == 0x0151) = true := by decide
theorem test_L7 :
    runs [(0x0150, 0x66), (0xC000, 0x12)] ({ base with h := 0xC0, l := 0x00 }) (fun _ t => t.f == 0xB0 && t.h == 0x12 && t.pc == 0x0151) = true := by decide
theorem test_L9 :
    runs [(0x0150, 0x77)] ({ base with h := 0xC0, l := 0x10, a := 0x99 }) (fun _ t => t.f == 0xB0 && t.pc == 0x0151 && busRead 0xC010 t == 0x99) = true := by decide
theorem test_L11 :
    runs [(0x0150, 0x75)] ({ base with h := 0xC0, l := 0x10 }) (fun _ t => t.f == 0xB0 && t.pc == 0x0151 && busRead 0xC010 t == 0x10) = true := by decide
theorem test_L13 :
    runs [(0x0150, 0x70)] ({ base with h := 0x20, l := 0x00, b := 0x05 }) (fun s t => t.f == 0xB0 && t.pc == 0x0151 && t.rom == s.rom) = true := by decide
theorem test_L14 :
    runs [(0x0150, 0x3E), (0x0151, 0x42)] (base) (fun _ t => t.a == 0x42 && t.f == 0xB0 && t.pc == 0x0152) = true := by decide
theorem test_L17 :
    runs [(0x0150, 0x36), (0x0151, 0x7F)] ({ base with h := 0xC1, l := 0x23 }) (fun _ t => t.f == 0xB0 && t.pc == 0x0152 && busRead 0xC123 t == 0x7F) = true := by decide
theorem test_L18 :
    runs [(0x0150, 0x02)] ({ base with b := 0xC0, c := 0x01, a := 0x11 }) (fun _ t => t.f == 0xB0 && t.pc == 0x0151 && busRead 0xC001 t == 0x11) = true := by decide
theorem test_L19 :
    runs [(0x0150, 0x12)] ({ base with d := 0xFE, e := 0x00, a := 0x22 }) (fun _ t => t.f == 0xB0 && t.pc == 0x0151 && busRead 0xFE00 t == 0x22) = true := by decide
theorem test_L20 :
    runs [(0x0150, 0x0A), (0xC001, 0x11)] ({ base with b := 0xC0, c := 0x01 }) (fun _ t => t.a == 0x11 && t.f == 0xB0 && t.pc == 0x0151) = true := by decide
theorem test_L21 :
    runs [(0x0150, 0x1A), (0xC000, 0x77)] ({ base with d := 0xE0, e := 0x00 }) (fun _ t => t.a == 0x77 && t.f == 0xB0 && t.pc == 0x0151) = true := by decide
theorem test_L22 :
    runs [(0x0150, 0xEA), (0x0151, 0x34), (0x0152, 0xC2)] ({ base with a := 0x55 }) (fun _ t => t.f == 0xB0 && t.pc == 0x0153 && busRead 0xC234 t == 0x55) = true := by decide
theorem test_L23 :
    runs [(0x0150, 0xFA), (0x0151, 0x34), (0x0152, 0xC2), (0xC234, 0x55)] (base) (fun _ t => t.a == 0x55 && t.f == 0xB0 && t.pc == 0x0153) = true := by decide
theorem test_L24 :
    runs [(0x0150, 0xE0), (0x0151, 0xFF)] ({ base with a := 0x05 }) (fun _ t => t.f == 0xB0 && t.pc == 0x0152 && busRead 0xFFFF t == 0x05) = true := by decide
theorem test_L25 :
    runs [(0x0150, 0xE0), (0x0151, 0x44), (0xFF44, 0x90)] ({ base with a := 0x33 }) (fun _ t => t.f == 0xB0 && t.pc == 0x0152 && busRead 0xFF44 t == 0x00) = true := by decide
theorem test_L26 :
    runs [(0x0150, 0xF0), (0x0151, 0x44), (0xFF44, 0x90)] (base) (fun _ t => t.a == 0x90 && t.f == 0xB0 && t.pc == 0x0152) = true := by decide
theorem test_L29 :
    runs [(0x0150, 0xE2)] ({ base with c := 0x80, a := 0x3C }) (fun _ t => t.f == 0xB0 && t.pc == 0x0151 && busRead 0xFF80 t == 0x3C) = true := by decide
theorem test_L30 :
    runs [(0x0150, 0xF2), (0xFF0F, 0x1F)] ({ base with c := 0x0F }) (fun _ t => t.a == 0x1F && t.f == 0xB0 && t.pc == 0x0151) = true := by decide
theorem test_L31 :
    runs [(0x0150, 0x22)] ({ base with h := 0xC0, l := 0x00, a := 0x01 }) (fun _ t => t.f == 0xB0 && t.l == 0x01 && t.pc == 0x0151 && busRead 0xC000 t == 0x01) = true := by decide
theorem test_L32 :
    runs [(0x0150, 0x22)] ({ base with h := 0xFF, l := 0xFF, a := 0x1F }) (fun _ t => t.f == 0xB0 && t.h == 0x00 && t.l == 0x00 && t.pc == 0x0151 && busRead 0xFFFF t == 0x1F) = true := by decide
theorem test_L33 :
    runs [(0x0150, 0x2A), (0xC000, 0x09)] ({ base with h := 0xC0, l := 0x00 }) (fun _ t => t.a == 0x09 && t.f == 0xB0 && t.l == 0x01 && t.pc == 0x0151) = true := by decide
theorem test_L35 :
    runs [(0x0150, 0x32)] ({ base with h := 0x00, l := 0x00, a := 0x12 }) (fun s t => t.f == 0xB0 && t.h == 0xFF && t.l == 0xFF && t.pc == 0x0151 && t.rom == s.rom) = true := by decide
theorem test_L36 :
    runs [(0x0150, 0x3A), (0xC005, 0xAB)] ({ base with h := 0xC0, l := 0x05 }) (fun _ t => t.a == 0xAB && t.f == 0xB0 && t.l == 0x04 && t.pc == 0x0151) = true := by decide
theorem test_W1 :
    runs [(0x0150, 0x01), (0x0151, 0x34), (0x0152, 0x12)] (base) (fun _ t => t.f == 0xB0 && t.b == 0x12 && t.c == 0x34 && t.pc == 0x0153) = true := by decide
theorem test_W2 :
    runs [(0x0150, 0x11), (0x0151, 0x00), (0x0152, 0x02)] (base) (fun _ t => t.f == 0xB0 && t.d == 0x02 && t.e == 0x00 && t.pc == 0x0153) = true := by decide
theorem test_W3 :
    runs [(0x0150, 0x21), (0x0151, 0x00), (0x0152, 0xC0)] (base) (fun _ t => t.f == 0xB0 && t.h == 0xC0 && t.l == 0x00 && t.pc == 0x0153) = true := by decide
theorem test_W4 :
    runs [(0x0150, 0x31), (0x0151, 0x00), (0x0152, 0xD0)] (base) (fun _ t => t.f == 0xB0 && t.sp == 0xD000 && t.pc == 0x0153) = true := by decide
theorem test_W5 :
    runs [(0x0150, 0x08), (0x0151, 0x00), (0x0152, 0xC1)] (base) (fun _ t => t.f == 0xB0 && t.pc == 0x0153 && busRead 0xC100 t == 0xFE && busRead 0xC101 t == 0xFF) = true := by decide
theorem test_W6 :
    runs [(0x0150, 0x08), (0x0151, 0xFF), (0x0152, 0xFF)] ({ base with sp := 0x1234 }) (fun s t => t.f == 0xB0 && t.pc == 0x0153 && busRead 0xFFFF t == 0x34 && t.rom == s.rom) = true := by decide
theorem test_W7 :
    runs [(0x0150, 0xF9)] ({ base with h := 0xD0, l := 0x00 }) (fun _ t => t.f == 0xB0 && t.sp == 0xD000 && t.pc == 0x0151) = true := by decide
theorem test_W8 :
    runs [(0x0150, 0xF8), (0x0151, 0x08)] ({ base with sp := 0xFFF8 }) (fun _ t => t.f == 0x30 && t.h == 0x00 && t.l == 0x00 && t.pc == 0x0152) = true := by decide
theorem test_W11 :
    runs [(0x0150, 0xF8), (0x0151, 0xFF)] ({ base with sp := 0x0000 }) (fun _ t => t.f == 0x00 && t.h == 0xFF && t.l == 0xFF && t.pc == 0x0152) = true := by decide
theorem test_W13 :
    runs [(0x0150, 0xC5)] ({ base with sp := 0xD000, b := 0x12, c := 0x34 }) (fun _ t => t.f == 0xB0 && t.sp == 0xCFFE && t.pc == 0x0151 && busRead 0xCFFF t == 0x12 && busRead 0xCFFE t == 0x34) = true := by decide
theorem test_W15 :
    runs [(0x0150, 0xF5)] ({ base with sp := 0xD000, a := 0x12, f := 0xB0 }) (fun _ t => t.f == 0xB0 && t.sp == 0xCFFE && t.pc == 0x0151 && busRead 0xCFFF t == 0x12 && busRead 0xCFFE t == 0xB0) = true := by decide
theorem test_W17 :
    runs [(0x0150, 0xC5)] ({ base with sp := 0x0001, b := 0x12, c := 0x34 }) (fun s t => t.f == 0xB0 && t.sp == 0xFFFF && t.pc == 0x0151 && t.rom == s.rom && busRead 0xFFFF t == 0x34) = true := by decide
theorem test_W18 :
    runs [(0x0150, 0xD1), (0xCFFE, 0x34), (0xCFFF, 0x12)] ({ base with sp := 0xCFFE }) (fun _ t => t.f == 0xB0 && t.d == 0x12 && t.e == 0x34 && t.sp == 0xD000 && t.pc == 0x0151) = true := by decide
theorem test_W20 :
    runs [(0x0150, 0xF1), (0xCFFE, 0x5F), (0xCFFF, 0x80)] ({ base with sp := 0xCFFE }) (fun _ t => t.a == 0x80 && t.f == 0x50 && t.sp == 0xD000 && t.pc == 0x0151) = true := by decide
theorem test_W21 :
    runs [(0x0150, 0xF1), (0xCFFE, 0xFF), (0xCFFF, 0x12)] ({ base with sp := 0xCFFE }) (fun _ t => t.a == 0x12 && t.f == 0xF0 && t.sp == 0xD000 && t.pc == 0x0151) = true := by decide
theorem test_W22 :
    runs [(0x0150, 0xC1), (0xFFFF, 0xCD), (0x0000, 0x00)] ({ base with sp := 0xFFFF }) (fun _ t => t.f == 0xB0 && t.c == 0xCD && t.sp == 0x0001 && t.pc == 0x0151) = true := by decide
theorem test_A1 :
    runs [(0x0150, 0x80)] ({ base with a := 0x3A, b := 0xC6 }) (fun _ t => t.a == 0x00 && t.f == 0xB0 && t.pc == 0x0151) = true := by decide
theorem test_A3 :
    runs [(0x0150, 0x87)] ({ base with a := 0x80 }) (fun _ t => t.a == 0x00 && t.f == 0x90 && t.pc == 0x0151) = true := by decide
theorem test_A4 :
    runs [(0x0150, 0x86), (0xC000, 0x7F)] ({ base with a := 0x01, h := 0xC0, l := 0x00 }) (fun _ t => t.a == 0x80 && t.f == 0x20 && t.pc == 0x0151) = true := by decide
theorem test_A6 :
    runs [(0x0150, 0xC6), (0x0151, 0x00)] ({ base with a := 0x00, f := 0x70 }) (fun _ t => t.f == 0x80 && t.pc == 0x0152) = true := by decide
theorem test_A7 :
    runs [(0x0150, 0x8B)] ({ base with a := 0xE1, e := 0x0F, f := 0x10 }) (fun _ t => t.a == 0xF1 && t.f == 0x20 && t.pc == 0x0151) = true := by decide
theorem test_A8 :
    runs [(0x0150, 0x88)] ({ base with a := 0xFF, b := 0xFF, f := 0x10 }) (fun _ t => t.f == 0x30 && t.pc == 0x0151) = true := by decide
theorem test_A9 :
    runs [(0x0150, 0xCE), (0x0151, 0x00)] ({ base with a := 0xFF, f := 0x10 }) (fun _ t => t.a == 0x00 && t.f == 0xB0 && t.pc == 0x0152) = true := by decide
theorem test_A13 :
    runs [(0x0150, 0x90)] ({ base with a := 0x00, b := 0x01 }) (fun _ t => t.a == 0xFF && t.f == 0x70 && t.pc == 0x0151) = true := by decide
theorem test_A17 :
    runs [(0x0150, 0x96), (0xC000, 0x40)] ({ base with a := 0x3E, h := 0xC0, l := 0x00 }) (fun _ t => t.a == 0xFE && t.f == 0x50 && t.pc == 0x0151) = true := by decide
theorem test_A18 :
    runs [(0x0150, 0x9C)] ({ base with a := 0x3B, h := 0x2A, l := 0x4D, f := 0x10 }) (fun _ t => t.a == 0x10 && t.f == 0x40 && t.pc == 0x0151) = true := by decide
theorem test_A20 :
    runs [(0x0150, 0x98)] ({ base with a := 0x00, b := 0xFF, f := 0x10 }) (fun _ t => t.f == 0xF0 && t.pc == 0x0151) = true := by decide
theorem test_A23 :
    runs [(0x0150, 0xDE), (0x0151, 0x3A)] ({ base with a := 0x3B, f := 0x10 }) (fun _ t => t.a == 0x00 && t.f == 0xC0 && t.pc == 0x0152) = true := by decide
theorem test_A24 :
    runs [(0x0150, 0xA5)] ({ base with a := 0x5A, h := 0x01, l := 0x3F }) (fun _ t => t.a == 0x1A && t.f == 0x20 && t.pc == 0x0151) = true := by decide
theorem test_A27 :
    runs [(0x0150, 0xAF)] ({ base with a := 0x77 }) (fun _ t => t.a == 0x00 && t.f == 0x80 && t.pc == 0x0151) = true := by decide
theorem test_A30 :
    runs [(0x0150, 0xB0)] ({ base with a := 0x5A, b := 0x0F }) (fun _ t => t.a == 0x5F && t.f == 0x00 && t.pc == 0x0151) = true := by decide
theorem test_A33 :
    runs [(0x0150, 0xFE), (0x0151, 0x40)] ({ base with a := 0x3C }) (fun _ t => t.f == 0x50 && t.pc == 0x0152) = true := by decide
theorem test_A36 :
    runs [(0x0150, 0xBF)] ({ base with a := 0xAB, f := 0x00 }) (fun _ t => t.f == 0xC0 && t.pc == 0x0151) = true := by decide
theorem test_A37 :
    runs [(0x0150, 0x04)] ({ base with b := 0xFF, f := 0x10 }) (fun _ t => t.f == 0xB0 && t.b == 0x00 && t.pc == 0x0151) = true := by decide
theorem test_A38 :
    runs [(0x0150, 0x0C)] ({ base with c := 0x0F, f := 0x00 }) (fun _ t => t.f == 0x20 && t.c == 0x10 && t.pc == 0x0151) = true := by decide
theorem test_A40 :
    runs [(0x0150, 0x34), (0xC000, 0x50)] ({ base with h := 0xC0, l := 0x00, f := 0x00 }) (fun _ t => t.f == 0x00 && t.pc == 0x0151 && busRead 0xC000 t == 0x51) = true := by decide
theorem test_A41 :
    runs [(0x0150, 0x34), (0xC000, 0xFF)] ({ base with h := 0xC0, l := 0x00, f := 0x10 }) (fun _ t => t.f == 0xB0 && t.pc == 0x0151 && busRead 0xC000 t == 0x00) = true := by decide
theorem test_A43 :
    runs [(0x0150, 0x05)] ({ base with b := 0x00, f := 0x00 }) (fun _ t => t.f == 0x60 && t.b == 0xFF && t.pc == 0x0151) = true := by decide
theorem test_A44 :
    runs [(0x0150, 0x3D)] ({ base with a := 0x10, f := 0x10 }) (fun _ t => t.a == 0x0F && t.f == 0x70 && t.pc == 0x0151) = true := by decide
theorem test_A45 :
    runs [(0x0150, 0x35), (0xC000, 0x00)] ({ base with h := 0xC0, l := 0x00, f := 0x00 }) (fun _ t => t.f == 0x60 && t.pc == 0x0151 && busRead 0xC000 t == 0xFF) = true := by decide
theorem test_A46 :
    runs [(0x0150, 0x2F)] ({ base with a := 0x35, f := 0x80 }) (fun _ t => t.a == 0xCA && t.f == 0xE0 && t.pc == 0x0151) = true := by decide
theorem test_A47 :
    runs [(0x0150, 0x37)] ({ base with f := 0xE0 }) (fun _ t => t.f == 0x90 && t.pc == 0x0151) = true := by decide
theorem test_A49 :
    runs [(0x0150, 0x3F)] ({ base with f := 0xF0 }) (fun _ t => t.f == 0x80 && t.pc == 0x0151) = true := by decide
theorem test_DA11 :
    runs [(0x0150, 0x27)] ({ base with a := 0x00, f := 0x90 }) (fun _ t => t.a == 0x60 && t.f == 0x10 && t.pc == 0x0151) = true := by decide
theorem test_DA15 :
    runs [(0x0150, 0x27)] ({ base with a := 0x9A, f := 0x70 }) (fun _ t => t.a == 0x34 && t.f == 0x50 && t.pc == 0x0151) = true := by decide
theorem test_X1 :
    runs [(0x0150, 0x09)] ({ base with h := 0x8A, l := 0x23, b := 0x06, c := 0x05, f := 0x80 }) (fun _ t => t.f == 0xA0 && t.h == 0x90 && t.l == 0x28 && t.pc == 0x0151) = true := by decide
theorem test_X3 :
    runs [(0x0150, 0x19)] ({ base with h := 0x0F, l := 0xFF, d := 0x00, e := 0x01, f := 0x00 }) (fun _ t => t.f == 0x20 && t.h == 0x10 && t.l == 0x00 && t.pc == 0x0151) = true := by decide
theorem test_X4 :
    runs [(0x0150, 0x29)] ({ base with h := 0x88, l := 0x00, f := 0x80 }) (fun _ t => t.f == 0xB0 && t.h == 0x10 && t.pc == 0x0151) = true := by decide
theorem test_X5 :
    runs [(0x0150, 0x39)] ({ base with h := 0x00, l := 0x01, sp := 0xFFFF, f := 0x40 }) (fun _ t => t.f == 0x30 && t.l == 0x00 && t.pc == 0x0151) = true := by decide
theorem test_X7 :
    runs [(0x0150, 0x03)] ({ base with b := 0xFF, c := 0xFF }) (fun _ t => t.f == 0xB0 && t.b == 0x00 && t.c == 0x00 && t.pc == 0x0151) = true := by decide
theorem test_X13 :
    runs [(0x0150, 0x2B)] ({ base with h := 0x00, l := 0x01, f := 0x00 }) (fun _ t => t.f == 0x00 && t.l == 0x00 && t.pc == 0x0151) = true := by decide
theorem test_X14 :
    runs [(0x0150, 0x3B)] ({ base with sp := 0x0000 }) (fun _ t => t.f == 0xB0 && t.sp == 0xFFFF && t.pc == 0x0151) = true := by decide
theorem test_X18 :
    runs [(0x0150, 0xE8), (0x0151, 0xFF)] ({ base with sp := 0xD001 }) (fun _ t => t.f == 0x30 && t.sp == 0xD000 && t.pc == 0x0152) = true := by decide
theorem test_X19 :
    runs [(0x0150, 0xE8), (0x0151, 0x80)] ({ base with sp := 0x0000 }) (fun _ t => t.f == 0x00 && t.sp == 0xFF80 && t.pc == 0x0152) = true := by decide
theorem test_B1 :
    runs [(0x0150, 0x07)] ({ base with a := 0x85, f := 0xF0 }) (fun _ t => t.a == 0x0B && t.f == 0x10 && t.pc == 0x0151) = true := by decide
theorem test_B3 :
    runs [(0x0150, 0x0F)] ({ base with a := 0x3B }) (fun _ t => t.a == 0x9D && t.f == 0x10 && t.pc == 0x0151) = true := by decide
theorem test_B5 :
    runs [(0x0150, 0x17)] ({ base with a := 0x80, f := 0x00 }) (fun _ t => t.a == 0x00 && t.f == 0x10 && t.pc == 0x0151) = true := by decide
theorem test_B6 :
    runs [(0x0150, 0x1F)] ({ base with a := 0x81, f := 0x00 }) (fun _ t => t.a == 0x40 && t.f == 0x10 && t.pc == 0x0151) = true := by decide
theorem test_B8 :
    runs [(0x0150, 0xCB), (0x0151, 0x00)] ({ base with b := 0x85 }) (fun _ t => t.f == 0x10 && t.b == 0x0B && t.pc == 0x0152) = true := by decide
theorem test_B12 :
    runs [(0x0150, 0xCB), (0x0151, 0x15)] ({ base with h := 0x01, l := 0x80, f := 0x00 }) (fun _ t => t.f == 0x90 && t.l == 0x00 && t.pc == 0x0152) = true := by decide
theorem test_B13 :
    runs [(0x0150, 0xCB), (0x0151, 0x10)] ({ base with b := 0x00, f := 0x10 }) (fun _ t => t.f == 0x00 && t.b == 0x01 && t.pc == 0x0152) = true := by decide
theorem test_B14 :
    runs [(0x0150, 0xCB), (0x0151, 0x1F)] ({ base with a := 0x01, f := 0x00 }) (fun _ t => t.a == 0x00 && t.f == 0x90 && t.pc == 0x0152) = true := by decide
theorem test_B15 :
    runs [(0x0150, 0xCB), (0x0151, 0x1E), (0xC000, 0x8A)] ({ base with h := 0xC0, l := 0x00, f := 0x10 }) (fun _ t => t.f == 0x00 && t.pc == 0x0152 && busRead 0xC000 t == 0xC5) = true := by decide
theorem test_B16 :
    runs [(0x0150, 0xCB), (0x0151, 0x22)] ({ base with d := 0xFF }) (fun _ t => t.f == 0x10 && t.d == 0xFE && t.pc == 0x0152) = true := by decide
theorem test_B19 :
    runs [(0x0150, 0xCB), (0x0151, 0x2F)] ({ base with a := 0x01, f := 0x00 }) (fun _ t => t.a == 0x00 && t.f == 0x90 && t.pc == 0x0152) = true := by decide
theorem test_B20 :
    runs [(0x0150, 0xCB), (0x0151, 0x28)] ({ base with b := 0xFF, f := 0x00 }) (fun _ t => t.f == 0x10 && t.pc == 0x0152) = true := by decide
theorem test_B21 :
    runs [(0x0150, 0xCB), (0x0151, 0x37)] ({ base with a := 0xF1 }) (fun _ t => t.a == 0x1F && t.f == 0x00 && t.pc == 0x0152) = true := by decide
theorem test_B25 :
    runs [(0x0150, 0xCB), (0x0151, 0x38)] ({ base with b := 0x01, f := 0x00 }) (fun _ t => t.f == 0x90 && t.b == 0x00 && t.pc == 0x0152) = true := by decide
theorem test_B26 :
    runs [(0x0150, 0xCB), (0x0151, 0x7F)] ({ base with a := 0x80, f := 0x10 }) (fun _ t => t.f == 0x30 && t.pc == 0x0152) = true := by decide
theorem test_B30 :
    runs [(0x0150, 0xCB), (0x0151, 0x46), (0xC000, 0xFE)] ({ base with h := 0xC0, l := 0x00, f := 0x00 }) (fun _ t => t.f == 0xA0 && t.pc == 0x0152) = true := by decide
theorem test_B33 :
    runs [(0x0150, 0xCB), (0x0151, 0x86), (0xC000, 0xFF)] ({ base with h := 0xC0, l := 0x00 }) (fun _ t => t.f == 0xB0 && t.pc == 0x0152 && busRead 0xC000 t == 0xFE) = true := by decide
theorem test_B34 :
    runs [(0x0150, 0xCB), (0x0151, 0xDE), (0xC000, 0x00)] ({ base with h := 0xC0, l := 0x00 }) (fun _ t => t.f == 0xB0 && t.pc == 0x0152 && busRead 0xC000 t == 0x08) = true := by decide
theorem test_B36 :
    runs [(0x0150, 0xCB), (0x0151, 0xC1)] ({ base with c := 0x01 }) (fun _ t => t.f == 0xB0 && t.pc == 0x0152) = true := by decide
theorem test_J1 :
    runs [(0x0150, 0xC3), (0x0151, 0x50), (0x0152, 0x01)] (base) (fun _ t => t.pc == 0x0150) = true := by decide
theorem test_J2 :
    runs [(0x0150, 0xC2), (0x0151, 0x00), (0x0152, 0x02)] ({ base with f := 0x00 }) (fun _ t => t.pc == 0x0200) = true := by decide
theorem test_J3 :
    runs [(0x0150, 0xC2), (0x0151, 0x00), (0x0152, 0x02)] ({ base with f := 0x80 }) (fun _ t => t.pc == 0x0153) = true := by decide
theorem test_J10 :
    runs [(0x0150, 0xE9)] ({ base with h := 0xC1, l := 0x00 }) (fun _ t => t.pc == 0xC100) = true := by decide
theorem test_J11 :
    runs [(0x0150, 0x18), (0x0151, 0xFE)] (base) (fun _ t => t.pc == 0x0150) = true := by decide
theorem test_J14 :
    runs [(0x0150, 0x18), (0x0151, 0x80)] (base) (fun _ t => t.pc == 0x00D2) = true := by decide
theorem test_J15 :
    runs [(0x0150, 0x20), (0x0151, 0xFB)] ({ base with f := 0x00 }) (fun _ t => t.pc == 0x014D) = true := by decide
theorem test_J18 :
    runs [(0x0150, 0x30), (0x0151, 0x05)] ({ base with f := 0x10 }) (fun _ t => t.pc == 0x0152) = true := by decide
theorem test_J21 :
    runs [(0x0150, 0xCD), (0x0151, 0x00), (0x0152, 0x02)] ({ base with sp := 0xD000 }) (fun _ t => t.sp == 0xCFFE && t.pc == 0x0200 && busRead 0xCFFF t == 0x01 && busRead 0xCFFE t == 0x53) = true := by decide
theorem test_J22 :
    runs [(0x0150, 0xC4), (0x0151, 0x00), (0x0152, 0x02)] ({ base with f := 0x80, sp := 0xD000 }) (fun _ t => t.pc == 0x0153) = true := by decide
theorem test_J23 :
    runs [(0x0150, 0xCC), (0x0151, 0x00), (0x0152, 0x02)] ({ base with f := 0x80, sp := 0xD000 }) (fun _ t => t.sp == 0xCFFE && t.pc == 0x0200 && busRead 0xCFFF t == 0x01 && busRead 0xCFFE t == 0x53) = true := by decide
theorem test_J26 :
    runs [(0x0150, 0xC9), (0xCFFE, 0x53), (0xCFFF, 0x01)] ({ base with sp := 0xCFFE }) (fun _ t => t.sp == 0xD000 && t.pc == 0x0153) = true := by decide
theorem test_J27 :
    runs [(0x0150, 0xC0), (0xCFFE, 0x53), (0xCFFF, 0x01)] ({ base with f := 0x80, sp := 0xCFFE }) (fun _ t => t.pc == 0x0151) = true := by decide
theorem test_J28 :
    runs [(0x0150, 0xC0), (0xCFFE, 0x53), (0xCFFF, 0x01)] ({ base with f := 0x00, sp := 0xCFFE }) (fun _ t => t.sp == 0xD000 && t.pc == 0x0153) = true := by decide
theorem test_J30 :
    runs [(0x0150, 0xD9), (0xCFFE, 0x34), (0xCFFF, 0x12)] ({ base with sp := 0xCFFE }) (fun _ t => t.sp == 0xD000 && t.pc == 0x1234 && t.imeDelay == .armed) = true := by decide
theorem test_J36 :
    runs [(0x0150, 0xEF)] ({ base with sp := 0xD000 }) (fun _ t => t.sp == 0xCFFE && t.pc == 0x0028 && busRead 0xCFFF t == 0x01 && busRead 0xCFFE t == 0x51) = true := by decide
theorem test_Y1 :
    runs [(0x0150, 0x00)] (base) (fun _ t => t.pc == 0x0151) = true := by decide
theorem test_Y3 :
    runs [(0x0150, 0x10), (0x0151, 0xFF)] (base) (fun _ t => t.pc == 0x0152) = true := by decide
theorem test_Y4 :
    runs [(0x0150, 0x76)] (base) (fun _ t => t.pc == 0x0151 && t.halted == true) = true := by decide
theorem test_Y6 :
    runs [(0x0150, 0xF3)] ({ base with ime := false, imeDelay := .expiring }) (fun _ t => t.pc == 0x0151 && t.imeDelay == .inactive) = true := by decide
theorem test_Y8 :
    runs [(0x0150, 0xFB)] ({ base with ime := true }) (fun _ t => t.pc == 0x0151 && t.imeDelay == .armed) = true := by decide
theorem test_Y9 :
    runs [(0x0150, 0xD3)] (base) (fun _ t => t.pc == 0x0151 && t.events == [.unknownOpcode 0xD3 0x0150]) = true := by decide
theorem test_Y19 :
    runs [(0x0150, 0xFD)] (base) (fun _ t => t.pc == 0x0151 && t.events == [.unknownOpcode 0xFD 0x0150]) = true := by decide

/-! ### Steps: the vectors S1 to S17 of 95_test_vectors.md, one step of each -/

theorem test_S1_highest_class_is_serviced :
    steps [(0x0150, 0x00)] { base with sp := 0xD000, ime := true, ifReg := 0x05, ieReg := 0x05 }
      (fun t => t.pc == 0x0040 && t.ifReg == 0x04 && !t.ime && busRead 0xCFFF t == 0x01 && busRead 0xCFFE t == 0x51) = true := by
  decide
theorem test_S2_EI_services_nothing_at_its_own_boundary :
    steps [(0x0150, 0xFB)] { base with sp := 0xD000, ieReg := 0x01, ifReg := 0x01 }
      (fun t => t.pc == 0x0151 && !t.ime && t.imeDelay == .expiring) = true := by
  decide
theorem test_S3_the_instruction_after_EI_runs_before_service :
    steps [(0x0151, 0x3C)] { base with pc := 0x0151, sp := 0xD000, a := 0, imeDelay := .expiring, ieReg := 0x04, ifReg := 0x04 }
      (fun t => t.a == 0x01 && t.pc == 0x0050 && t.ifReg == 0x00 && busRead 0xCFFE t == 0x52) = true := by
  decide
theorem test_S4_DI_cancels_the_delay :
    steps [(0x0151, 0xF3)] { base with pc := 0x0151, imeDelay := .expiring, ieReg := 0x01, ifReg := 0x01 }
      (fun t => t.pc == 0x0152 && !t.ime && t.imeDelay == .inactive) = true := by
  decide
theorem test_S5_high_bits_of_IF_and_IE_are_ignored :
    steps [(0x0150, 0x00)] { base with ime := true, ifReg := 0xE2, ieReg := 0xFD } (fun t => t.pc == 0x0151 && t.ime) = true := by
  decide
theorem test_halted_step_keeps_pc_and_counts :
    steps [(0x0150, 0x3C)] { base with halted := true, a := 0x77 } (fun t => t.pc == 0x0150 && t.a == 0x77 && t.halted && t.instrCount == 1) = true := by
  decide
theorem test_wake_up_without_service :
    steps [] { base with halted := true, ifReg := 0x08, ieReg := 0x08 } (fun t => !t.halted && t.pc == 0x0150 && t.ifReg == 0x08) = true := by
  decide
theorem test_S9_timer_reloads_and_is_lost_when_disabled :
    steps [(0x0150, 0x00)] { base with instrCount := 3, tima := 0xFF, tma := 0xAB, tac := 0x04, timerEnabled := true }
      (fun t => t.tima == 0xAB && t.ifReg == 0x00) = true := by
  decide
theorem test_timer_raises_when_enabled :
    steps [(0x0150, 0x00)] { base with instrCount := 3, tima := 0xFF, tma := 0xAB, timerEnabled := true, ieReg := 0x04 }
      (fun t => t.tima == 0xAB && t.ifReg == 0x04 && t.pc == 0x0151) = true := by
  decide
theorem test_divider_counts_every_eighth_step :
    steps [(0x0150, 0x00)] { base with instrCount := 7, div := 0xFF } (fun t => t.div == 0x00) = true ∧
      steps [(0x0150, 0x00)] { base with instrCount := 6, div := 0xFF } (fun t => t.div == 0xFF) = true ∧
      steps [(0x0150, 0x00)] { base with instrCount := 7, div := 0xFF, doubleSpeed := true } (fun t => t.div == 0xFF) = true := by
  decide
theorem test_S13_vertical_blank_starts :
    steps [(0x0150, 0x00)] { base with instrCount := 999, ly := 0x8F }
      (fun t => t.ly == 0x90 && t.ifReg == 0x01 && t.events.take 2 == [.notifyScanline 143, .notifyScanline 144] && t.events.length == 11) = true := by
  decide
theorem test_S14_scanline_wraps :
    steps [(0x0150, 0x00)] { base with instrCount := 999, ly := 0x99, stat := 0x08 }
      (fun t => t.ly == 0x00 && t.ifReg == 0x02 && t.events == [.notifyAudioFrame] && !t.frameHold) = true := by
  decide
theorem test_S15_line_match_raises :
    steps [(0x0150, 0x00)] { base with instrCount := 999, ly := 0x04, lyc := 0x05, stat := 0x40 } (fun t => t.ly == 0x05 && t.ifReg == 0x02) = true := by
  decide
theorem test_frame_wait_holds :
    steps [(0x0150, 0x3C)] { waiting with frameComposed := false } (fun t => t.pc == 0x0150 && t.frameHold && t.instrCount == 0) = true ∧
      steps [(0x0150, 0x3C)] { waiting with frameComposed := true } (fun t => t.pc == 0x0151 && !t.frameHold) = true := by
  decide
theorem test_frame_wait_is_entered :
    steps [(0x0150, 0x00)] { waiting with frameHold := false, frameComposed := false, instrCount := 999, ly := 0x99 }
      (fun t => t.ly == 0x00 && t.frameHold) = true := by
  decide
theorem test_reference_display_never_holds :
    steps [(0x0150, 0x3C)] { base with frameHold := true, frameComposed := false } (fun t => t.pc == 0x0151 && !t.frameHold) = true ∧
      steps [(0x0150, 0x00)] { base with frameComposed := false, instrCount := 999, ly := 0x99 } (fun t => t.ly == 0x00 && !t.frameHold) = true := by
  decide
theorem test_host_run_stops_on_terminate :
    answers (runLoop 3 { base with terminate := true }) (fun t => t.pc == 0x0150) = true := by decide

/-! ### The bus at the ends of its ranges (R61 to R67, R76 to R78) -/

theorem test_mirror_and_banks :
    (busRead 0xFDFF (busWrite 0xDDFF 0x11 banked) == 0x11 && busRead 0xE000 (busWrite 0xC000 0x22 banked) == 0x22 &&
      (busWrite 0xDFFF 0x33 banked).wram == [⟨16383, 0x33⟩] && (busWrite 0xCFFF 0x44 banked).wram == [⟨4095, 0x44⟩]) = true := by
  decide
theorem test_registers_that_reset_on_write :
    ((busWrite 0xFF44 0x33 base).ly == 0x00 && (busWrite 0xFF04 0x33 { base with div := 0x10 }).div == 0x00) = true := by decide
theorem test_timer_control_write :
    ((busWrite 0xFF07 0x06 base).timerEnabled && (busWrite 0xFF07 0x06 base).timaRate == 2 && (busWrite 0xFF07 0x06 base).tac == 0x06) = true := by
  decide
theorem test_bank_register_write :
    ((busWrite 0xFF70 0xF8 banked).wramBank == 1 && (busWrite 0xFF70 0x0F banked).wramBank == 7 && (busWrite 0xFF70 0x07 base).wramBank == 1 &&
      busRead 0xFF70 (busWrite 0xFF70 0xF8 banked) == 0xF8) = true := by
  decide
theorem test_host_raw_poke_of_the_image :
    busRead 0x7FFF (hostWriteMemory 0x7FFF 0x5A base) = 0x5A ∧ (busWrite 0x7FFF 0x5A base).rom = [] := by decide
theorem test_wide_address_answers_FF :
    (busReadWide 0x10000 base).1 = 0xFF ∧ (busReadWide 0x10000 base).2.events = [.decodeAnomaly 0x10000] := by decide

/-! ### Supplied collaborators (R70, R72, R74) -/

theorem test_supplied_cartridge_answers_by_its_own_state :
    busRead 0x4000 supplied = Config.Cartridge.read supplied.cartState 0x4000 ∧
      (busWrite 0x2000 0x01 supplied).cartState = Config.Cartridge.write supplied.cartState 0x2000 0x01 := ⟨rfl, rfl⟩
theorem test_supplied_cartridge_hook_runs_once_per_step :
    answers (step { supplied with halted := true })
      (fun t => decide (t.cartState = Config.Cartridge.periodicUpdate supplied.cartState)) = true :=
  decide_eq_true rfl
theorem test_supplied_display_takes_an_offset :
    busRead 0x9FFF supplied = Config.Display.read supplied.dispState 0x1FFF ∧
      (busWrite 0x9FFF 0x5A supplied).dispState = Config.Display.write supplied.dispState 0x1FFF 0x5A := ⟨rfl, rfl⟩
theorem test_supplied_handler_reads_from_the_whole_state :
    busRead 0xFF00 { supplied with ioInput := [0x0E] } = Config.IoHandler.read (handlerView { supplied with ioInput := [0x0E] }) 0x00 := rfl
theorem test_supplied_handler_sees_no_event :
    busRead 0xFF00 { supplied with events := [.notifyAudioFrame] } = busRead 0xFF00 supplied ∧
      (busWrite 0xFF07 0x05 { supplied with events := [.notifyAudioFrame] }).timaRate = (busWrite 0xFF07 0x05 supplied).timaRate := ⟨rfl, rfl⟩
theorem test_supplied_handler_sets_the_timer_at_its_control_only :
    (busWrite 0xFF46 0xC0 supplied).timerEnabled = false ∧
      (busWrite 0xFF07 0x05 supplied).timerEnabled = (Config.IoHandler.write (handlerView supplied) 0x07 0x05).timerEnabled := ⟨rfl, rfl⟩
theorem test_supplied_handler_stores_IF_and_IE :
    (busWrite 0xFF0F 0x04 supplied).ifReg = 0x04 ∧ busRead 0xFF0F (busWrite 0xFF0F 0x04 supplied) = 0x04 ∧
      (busWrite 0xFFFF 0x15 supplied).ieReg = 0x15 := ⟨rfl, rfl, rfl⟩
theorem test_block_copy_effect :
    let e : IoEffect := ⟨[(0x46, 0xC0)], false, 0, 0, [(0x00, 0x11), (0x9F, 0x22)], [(0x1000, 0x33)], [(0x1FFF, 0x44)]⟩
    let t := applyIoEffect 0x46 e base
    busRead 0xFF46 t = 0xC0 ∧ busRead 0xFE00 t = 0x11 ∧ busRead 0xFE9F t = 0x22 ∧ busRead 0xD000 t = 0x33 ∧ busRead 0x9FFF t = 0x44 := by
  decide
theorem test_placed_word_runs_whatever_the_cartridge_is :
    answers (step (supplied.withFetchWord 16 0x423E)) (fun t => t.a == 0x42 && t.pc == 0x0152) = true := by decide

/-! ### Witnesses: for every claim with hypotheses, a state and operands that meet them, at the ends of each range -/

theorem witness_ResetIsLegal : memWf 32768 [⟨0, 0x11⟩, ⟨32767, 0x22⟩] = true := by decide
/-- `base` with a NOP at its PC. -/
def atNop : State := stored [(0x0150, 0x00), (0x0151, 0x00), (0x0152, 0x00)] base

theorem witness_StepKeepsLegalStates : legal banked = true ∧ legal atNop = true ∧ ∃ t, step atNop = .next t ∧ (t.pc == 0x0151) = true :=
  ⟨by decide, by decide, of_answers (p := fun t => t.pc == 0x0151) (by decide)⟩
theorem witness_StepKeepsHostSettings : ∃ t, step atNop = .next t ∧ (t.pc == 0x0151) = true := of_answers (p := fun t => t.pc == 0x0151) (by decide)
theorem witness_DecodeOfEncode : WellFormed (.jrE (-128)) = true ∧ WellFormed (.ldHLSPE 127) = true ∧ WellFormed .set7A = true := by decide
theorem witness_StepRunsTheFetchedInstruction :
    atNop.halted = false ∧ atNop.frameHold = false ∧
      decode (busRead atNop.pc atNop) (busRead (atNop.pc + 1) atNop) (busRead (atNop.pc + 2) atNop) = .nop ∧
      ∃ t, exec .nop atNop = .next t ∧ (t.pc == 0x0151) = true :=
  ⟨rfl, rfl, by decide, of_answers (p := fun t => t.pc == 0x0151) (by decide)⟩
theorem witness_FrameWaitHoldsUntilSignalled :
    waiting.frameHold = true ∧ waiting.params.display = .supplied ∧ ({ waiting with frameComposed := false } : State).frameComposed = false ∧
      ({ waiting with frameComposed := true } : State).frameComposed = true ∧ ({ base with frameHold := true } : State).params.display = .reference := by
  decide
theorem witness_LoadBlock :
    ¬ (Operand8.atHL = .atHL ∧ Operand8.b = .atHL) ∧ ¬ (Operand8.h = .atHL ∧ Operand8.atHL = .atHL) ∧ ¬ (Operand8.a = .atHL ∧ Operand8.a = .atHL) := by
  decide
theorem witness_StackPointerOffset : (-128 : Int) ≤ -128 ∧ (-128 : Int) ≤ 127 ∧ (-128 : Int) ≤ 127 ∧ (127 : Int) ≤ 127 := by decide
theorem witness_Jumps : (-128 : Int) ≤ -128 ∧ (-128 : Int) ≤ 127 ∧ (-128 : Int) ≤ 127 ∧ (127 : Int) ≤ 127 := by decide
theorem witness_PopUndoesPush_lowest :
    let s := { base with sp := 0xC002 }
    let u := { supplied with sp := 0xC002 }
    plainStorage s (s.sp - 1) = true ∧ plainStorage s (s.sp - 2) = true ∧ plainStorage u (u.sp - 1) = true ∧
      plainStorage u (u.sp - 2) = true := by
  decide
theorem witness_PopUndoesPush_highest :
    let s := { base with sp := 0x0000 }
    plainStorage s (s.sp - 1) = true ∧ plainStorage s (s.sp - 2) = true := by
  decide
theorem witness_HaltIdlesUntilWoken :
    ({ base with halted := true } : State).halted = true ∧ ({ base with halted := true } : State).frameHold = false := by decide
theorem witness_UnknownOpcodes : (0xD3 : Byte) ∈ unknownOpcodes ∧ (0xED : Byte) ∈ unknownOpcodes ∧ (0xFD : Byte) ∈ unknownOpcodes := by decide
/-- `base` with HL at 0xC000. -/
def atC000 : State := { base with h := 0xC0, l := 0x00 }

theorem witness_InstructionsKeepOtherMemory :
    (∃ t, exec .ldAtHLB atC000 = .next t ∧ (busRead 0xC000 t == 0x00) = true) ∧ storeAddrs .ldAtHLB atC000 = [0xC000] ∧
      leavesAlone atC000 0xC000 0xC001 = true ∧ computedRead atC000 0xC001 = false :=
  ⟨of_answers (p := fun t => busRead 0xC000 t == 0x00) (by decide), by decide, by decide, by decide⟩
theorem witness_InstructionsKeepOtherMemory_supplied :
    (∃ t, exec (.ldhAtNA 0x80) supplied = .next t ∧ (t.pc == 0x0152) = true) ∧ storeAddrs (.ldhAtNA 0x80) supplied = [0xFF80] ∧
      leavesAlone supplied 0xFF80 0x4000 = true ∧ leavesAlone supplied 0xFF80 0xC000 = false ∧
      computedRead supplied 0x4000 = false ∧ leavesAlone supplied 0x0000 0xFF80 = true ∧ computedRead supplied 0xFF80 = true ∧
      regionOf 0xFF80 = .io :=
  ⟨of_answers (p := fun t => t.pc == 0x0152) (by decide), by decide, by decide, by decide, by decide, by decide, by decide, by decide⟩
theorem witness_InstructionsKeepOtherMemory_bank_register :
    (∃ t, exec (.ldhAtNA 0x70) banked = .next t ∧ (t.wramBank == 1) = true) ∧ storeAddrs (.ldhAtNA 0x70) banked = [0xFF70] ∧
      leavesAlone banked 0xFF70 0xCFFF = true ∧ leavesAlone banked 0xFF70 0xD000 = false :=
  ⟨of_answers (p := fun t => t.wramBank == 1) (by decide), by decide, by decide, by decide⟩
theorem witness_InstructionsKeepControlState :
    (∃ t, exec .incB base = .next t ∧ (t.b == 0x01) = true) ∧ changesEnable .incB = false ∧ Instr.incB ≠ .halt ∧
      unknownOpcodes.contains ((encode .incB).headD 0) = false :=
  ⟨of_answers (p := fun t => t.b == 0x01) (by decide), by decide, by decide, by decide⟩
theorem witness_InstructionsKeepFlagsAndStackPointer :
    (∃ t, exec .incBC base = .next t ∧ (t.c == 0x14) = true) ∧ writesFlags ((encode .incBC).headD 0) ((encode .incBC).getD 1 0) = false ∧
      writesFlags ((encode .res0B).headD 0) ((encode .res0B).getD 1 0) = false ∧ movesSP .incBC = false :=
  ⟨of_answers (p := fun t => t.c == 0x14) (by decide), by decide, by decide, by decide⟩
theorem witness_LaterPhasesKeepAToLAndF : base.ifReg &&& base.ieReg &&& 0x1F = 0 := by decide
theorem witness_BusMap :
    [(0x7FFF : Word), 0x8000, 0x9FFF, 0xA000, 0xBFFF, 0xC000, 0xCFFF, 0xD000, 0xDFFF, 0xE000, 0xFDFF, 0xFE00, 0xFEFF, 0xFF00, 0xFFFF].map regionOf =
      [.cartRom, .display, .display, .cartRam, .cartRam, .wramLow, .wramLow, .wramBanked, .wramBanked, .mirror, .mirror, .oam, .oam, .io, .io] := by
  decide
theorem witness_BusReadMap :
    (0x7FFF : Word).toNat ≤ 0x7FFF ∧ 0x8000 ≤ (0x8000 : Word).toNat ∧ (0x9FFF : Word).toNat ≤ 0x9FFF ∧ 0xA000 ≤ (0xA000 : Word).toNat ∧
      (0xBFFF : Word).toNat ≤ 0xBFFF ∧ 0xC000 ≤ (0xC000 : Word).toNat ∧ (0xCFFF : Word).toNat ≤ 0xCFFF ∧ 0xD000 ≤ (0xD000 : Word).toNat ∧
      (0xDFFF : Word).toNat ≤ 0xDFFF ∧ 0xE000 ≤ (0xE000 : Word).toNat ∧ (0xFDFF : Word).toNat ≤ 0xFDFF ∧ 0xFE00 ≤ (0xFE00 : Word).toNat ∧
      (0xFEFF : Word).toNat ≤ 0xFEFF ∧ 0xFF00 ≤ (0xFF00 : Word).toNat := by
  decide
theorem witness_BusWriteMap : 0xD000 ≤ (0xDFFF : Word).toNat ∧ (0xDFFF : Word).toNat ≤ 0xDFFF ∧ (busWrite 0xDFFF 0x5A banked).wram = [⟨16383, 0x5A⟩] := by
  decide
theorem witness_ReferenceCartridgeAndDisplay :
    base.params.cartridge = .reference ∧ base.params.display = .reference ∧
      (0x7FFF : Word) ≤ 0x7FFF ∧ (0xA000 : Word) ≤ 0xA000 ∧ (0xA000 : Word) ≤ 0xBFFF ∧ (0xA000 : Word) ≤ 0xBFFF ∧ (0xBFFF : Word) ≤ 0xBFFF ∧
      (0xBFFF : Word) ≠ 0xA000 := by
  decide
theorem witness_IoHandler : base.params.ioHandler = .reference ∧ banked.params.ioHandler = .reference ∧ banked.params.enhanced = true := by decide
theorem witness_CollaboratorContracts :
    supplied.params.cartridge = .supplied ∧ supplied.params.display = .supplied ∧ supplied.params.ioHandler = .supplied ∧
      isInterruptOffset 0x80 = false ∧ isInterruptOffset 0x0F = true ∧ isInterruptOffset 0xFF = true ∧ supplied.wramBank ≠ 0 ∧
      supplied.params.enhanced = false := by
  decide
theorem witness_MirrorWindow : 0xE000 ≤ (0xE000 : Word).toNat ∧ (0xE000 : Word).toNat ≤ 0xFDFF ∧ 0xE000 ≤ (0xFDFF : Word).toNat ∧ (0xFDFF : Word).toNat ≤ 0xFDFF := by
  decide
theorem witness_ReadAfterWrite :
    plainStorage base 0xC000 = true ∧ plainStorage base 0xFEFF = true ∧ plainStorage base 0xFF70 = true ∧ plainStorage base 0xFFFF = true ∧
      plainStorage base 0xBFFF = false ∧ plainStorage base 0xFF44 = false ∧ base.params.ioHandler = .reference ∧
      plainStorage supplied 0xFEFF = true ∧ plainStorage supplied 0xFF0F = true ∧ plainStorage supplied 0xFFFF = true ∧
      plainStorage supplied 0xFF70 = false := by
  decide
theorem witness_BusWriteKeepsTheRest :
    leavesAlone base 0xC000 0xC001 = true ∧ leavesAlone base 0xFF70 0xCFFF = true ∧ leavesAlone base 0xC000 0xE000 = false ∧
      computedRead base 0xFF80 = false ∧ leavesAlone supplied 0xC000 0xFF80 = true ∧ computedRead supplied 0xFF80 = true ∧
      leavesAlone supplied 0x9FFF 0x8000 = false ∧ leavesAlone supplied 0xBFFF 0x0000 = false ∧ leavesAlone supplied 0xFFFF 0xBFFF = true := by
  decide
theorem witness_Countdown :
    ({ base with imeDelay := .armed } : State).imeDelay = .armed ∧ ({ base with imeDelay := .expiring } : State).imeDelay = .expiring ∧
      base.imeDelay = .inactive := by
  decide
theorem witness_WakeUpWithoutService :
    ({ base with ifReg := 0x01, ieReg := 0x01, halted := true } : State).ime = false ∧
      ({ base with ime := true, ifReg := 0xE0, ieReg := 0xFF } : State).ifReg &&& 0xFF &&& 0x1F = 0 := by
  decide
theorem witness_InterruptService :
    let s := { base with ime := true, ifReg := 0x1F, ieReg := 0x10 }
    s.ime = true ∧ 4 < 5 ∧ (s.ifReg &&& s.ieReg).getLsbD 4 = true ∧ (List.range 4).all (fun j => !(s.ifReg &&& s.ieReg).getLsbD j) = true := by
  decide
theorem witness_InterruptService_lowest :
    let s := { base with ime := true, ifReg := 0x01, ieReg := 0xFF }
    s.ime = true ∧ 0 < 5 ∧ (s.ifReg &&& s.ieReg).getLsbD 0 = true := by
  decide
theorem witness_RaisingInterrupts :
    ({ base with ieReg := 0x04 } : State).ieReg.getLsbD IntClass.timer.bit = true ∧ base.ieReg.getLsbD IntClass.timer.bit = false := by decide
theorem witness_EnableDelay_first :
    let s := stored [(0x0150, 0xFB), (0x0151, 0x00), (0x0152, 0x00)] base
    s.halted = false ∧ s.frameHold = false ∧ s.ime = false ∧ fetchInstr s = .ei := by
  decide
theorem witness_EnableDelay_second :
    let s := { atNop with imeDelay := .expiring, ifReg := 0x01, ieReg := 0x01 }
    s.halted = false ∧ s.frameHold = false ∧ s.imeDelay = .expiring ∧ changesEnable (fetchInstr s) = false ∧
      ∃ u, exec (fetchInstr s) s = .next u ∧ decide (u.ifReg &&& u.ieReg &&& 0x1F ≠ 0) = true :=
  ⟨rfl, rfl, rfl, by decide, of_answers (p := fun u => decide (u.ifReg &&& u.ieReg &&& 0x1F ≠ 0)) (by decide)⟩
theorem witness_EveryStepCountsOne :
    (∃ t, step atNop = .next t ∧ (t.instrCount == 1) = true) ∧ atNop.frameHold = false ∧
      (∃ t, step { waiting with frameComposed := false } = .next t ∧ (t.instrCount == 0) = true) ∧
      waiting.frameHold = true ∧ waiting.params.display = .supplied :=
  ⟨of_answers (p := fun t => t.instrCount == 1) (by decide), rfl, of_answers (p := fun t => t.instrCount == 0) (by decide), rfl, rfl⟩

end Sys2Proof.Tests
end

namespace Sys2Proof.Machine

/-! ### Totality: every instruction and every step answers a next state (00_scope.md R7, 60_exceptions.md R300) -/

/-- Each shared operation is a total function of the state: its answer is a next state by definition. -/
theorem ExecForm.exists_next {s : State} {r : Result} (h : ExecForm s r) : ∃ t, r = .next t := by
  cases h <;> exact ⟨_, rfl⟩

theorem exec_exists_next (i : Instr) (s : State) : ∃ t, exec i s = .next t :=
  (exec_form s i).exists_next

theorem dispatchPhase_of_halted {s : State} (h : s.halted = true) : dispatchPhase s = .next s := by
  simp [dispatchPhase, h]

theorem dispatchPhase_of_running {s : State} (h : s.halted = false) : dispatchPhase s = exec (fetchInstr s) s := by
  simp [dispatchPhase, h]

theorem dispatchPhase_exists_next (s : State) : ∃ u, dispatchPhase s = .next u := by
  cases h : s.halted with
  | true => exact ⟨s, dispatchPhase_of_halted h⟩
  | false => rw [dispatchPhase_of_running h]; exact exec_exists_next _ _

/-- A core held in the frame wait stays as it is (R338). -/
theorem step_of_held {s : State} (h : held s = true) : step s = .next s := by
  simp [step, h]

theorem step_of_dispatch {s u : State} (h : held s = false) (hu : dispatchPhase (release s) = .next u) :
    step s = .next (afterDispatch u) := by
  simp [step, h, hu]

theorem step_exists_next (s : State) : ∃ t, step s = .next t := by
  cases h : held s with
  | true => exact ⟨s, step_of_held h⟩
  | false =>
    obtain ⟨u, hu⟩ := dispatchPhase_exists_next (release s)
    exact ⟨afterDispatch u, step_of_dispatch h hu⟩

/-- Settles O5: a meaning is one of the shared operations, each of which answers a next state; so dispatch does, and
with it the step, held or not. -/
theorem everyStepAnswersNext : Obligations.EveryStepAnswersNext :=
  ⟨exec_exists_next, step_exists_next⟩

end Sys2Proof.Machine

namespace Sys2Proof.Machine

/-! ### What phase C can do (60_exceptions.md R309 to R311) -/

/-- Phase C wakes the core and then services one class, or none (60_exceptions.md R309 to R311). -/
theorem interruptPhase_cases (s : State) :
    interruptPhase s = wakeUp s ∨
      ∃ k, firstClass (pending s) = some k ∧ interruptPhase s = serviceInterrupt k (wakeUp s) := by
  have hp : pending (wakeUp s) = pending s := rfl
  unfold interruptPhase serviceIfDue
  rw [hp]
  split
  · split
    · next k hk => exact .inr ⟨k, hk, rfl⟩
    · exact .inl rfl
  · exact .inl rfl

/-- With no enabled class pending, none is serviced (R310; D11: bits 7 to 5 are ignored). -/
theorem interruptPhase_of_none_pending {s : State} (h : pending s = 0) : interruptPhase s = wakeUp s := by
  obtain hw | ⟨k, hk, -⟩ := interruptPhase_cases s
  · exact hw
  · rw [h] at hk
    cases hk

/-! ### One rule for every invariant of the step -/

/-- An answer `.next u` of a shared operation is the next state. -/
theorem of_next {P : State → Prop} {u t : State} (h : (.next u : Result) = .next t) (hu : P u) : P t := by
  cases h; exact hu

/-- The lasting part of a state: the fields that within a step only a flag write or a bus write changes. Every field that
another operation writes is blanked: the registers but `F`, the interrupt control, the four I/O bytes the scheduler and
the service write, the step count, the supplied cartridge's own state, the output trace and the frame wait. -/
def lastingPart (s : State) : State :=
  { s with
    a := 0, b := 0, c := 0, d := 0, e := 0, h := 0, l := 0, sp := 0, pc := 0
    ime := false, imeDelay := .inactive, halted := false, instrCount := 0
    div := 0, tima := 0, ifReg := 0, ly := 0
    cartState := [], events := [], frameHold := false }

@[simp] theorem lastingPart_countStep (s : State) : lastingPart (countStep s) = lastingPart s := rfl
@[simp] theorem lastingPart_dividerTick (s : State) : lastingPart (dividerTick s) = lastingPart s := rfl
@[simp] theorem lastingPart_timerTick (s : State) : lastingPart (timerTick s) = lastingPart s := rfl
@[simp] theorem lastingPart_scanlineTick (s : State) : lastingPart (scanlineTick s) = lastingPart s := rfl

theorem lastingPart_schedulerPhase (s : State) : lastingPart (schedulerPhase s) = lastingPart s := by
  simp [schedulerPhase]

/-- A property of the lasting part that the two kinds of write to it keep: a flag write, which leaves `F[3:0] = 0`
(42_alu8.md R192), and a bus write. -/
structure KeptByWrites (P : State → Prop) : Prop where
  of_lasting : ∀ s, P (lastingPart s) ↔ P s
  flags : ∀ {s : State} {f : Byte}, f &&& 0x0F = 0 → P s → P { s with f := f }
  bus : ∀ {s : State} (a : Word) (v : Byte), P s → P (busWrite a v s)

namespace KeptByWrites

variable {P : State → Prop} {s t : State} {r : Result}

theorem congr (hP : KeptByWrites P) (hs : P s) (h : lastingPart t = lastingPart s) : P t :=
  (hP.of_lasting t).1 (h ▸ (hP.of_lasting s).2 hs)

theorem setFlags (hP : KeptByWrites P) (z n h c : Option Bool) (hs : P s) : P (setFlags z n h c s) :=
  hP.flags (packFlags_low ..) hs

theorem writeR8 (hP : KeptByWrites P) (r : Operand8) (v : Byte) (hs : P s) : P (writeR8 r v s) := by
  cases r
  case atHL => exact hP.bus _ _ hs
  all_goals exact hP.congr hs rfl

theorem writePair (hP : KeptByWrites P) (p : Pair) (w : Word) (hs : P s) : P (writePair p w s) := by
  cases p <;> exact hP.congr hs rfl

/-- POP AF masks the low nibble of `F` (10_state.md R23). -/
theorem writePairAF (hP : KeptByWrites P) (p : PairAF) (w : Word) (hs : P s) : P (writePairAF p w s) := by
  cases p
  case af =>
    have hf : lo8 w &&& 0xF0 &&& 0x0F = 0 := by rw [BitVec.and_assoc]; exact BitVec.and_zero
    exact hP.congr (hP.flags hf hs) rfl
  all_goals exact hP.congr hs rfl

theorem push (hP : KeptByWrites P) (w : Word) (hs : P s) : P (push w s) :=
  hP.congr (hP.bus _ _ (hP.bus _ _ hs)) rfl

theorem aluApply (hP : KeptByWrites P) (op : AluOp) (v : Byte) (hs : P s) : P (aluApply op v s) := by
  cases op <;> exact hP.setFlags _ _ _ _ (hP.congr hs rfl)

/-- Every shared operation is made of register updates, flag writes and bus writes. -/
theorem execForm (hP : KeptByWrites P) (hs : P s) (hf : ExecForm s r) (h : r = .next t) : P t := by
  cases hf with
  | load8 | loadImm8 | resetBit | setBit => exact of_next h (hP.congr (hP.writeR8 _ _ hs) rfl)
  | storeA | storeAStep => exact of_next h (hP.congr (hP.bus _ _ hs) rfl)
  | storeSP => exact of_next h (hP.congr (hP.bus _ _ (hP.bus _ _ hs)) rfl)
  | loadPairImm | increment16 | decrement16 => exact of_next h (hP.congr (hP.writePair _ _ hs) rfl)
  | pushRegister | restart => exact of_next h (hP.congr (hP.push _ hs) rfl)
  | popRegister => exact of_next h (hP.congr (hP.writePairAF (s := dropStack s) _ _ (hP.congr hs rfl)) rfl)
  | aluOperand | aluImmediate => exact of_next h (hP.congr (hP.aluApply _ _ hs) rfl)
  | increment8 | decrement8 | rotateOperand =>
    exact of_next h (hP.congr (hP.setFlags _ _ _ _ (hP.writeR8 _ _ hs)) rfl)
  | loadHLFromSPOffset | addHL | addSPOffset | rotateA | decimalAdjust | complementA | setCarry | complementCarry |
      testBit =>
    exact of_next h (hP.congr (hP.setFlags _ _ _ _ (hP.congr hs rfl)) rfl)
  | call taken =>
    cases taken
    · exact of_next h (hP.congr hs rfl)
    · exact of_next h (hP.congr (hP.push _ hs) rfl)
  | ret taken => cases taken <;> exact of_next h (hP.congr hs rfl)
  | loadA | loadAStep | loadSPFromHL | jump | jumpIf | jumpRelative | reti | noOperation | haltCore |
      disableInterrupts | enableInterrupts | unknownOpcode =>
    exact of_next h (hP.congr hs rfl)

theorem exec (hP : KeptByWrites P) {i : Instr} (hs : P s) (h : exec i s = .next t) : P t :=
  hP.execForm hs (exec_form s i) h

theorem interruptPhase (hP : KeptByWrites P) (hs : P s) : P (interruptPhase s) := by
  have hw : P (wakeUp s) := hP.congr hs rfl
  obtain h | ⟨k, -, h⟩ := interruptPhase_cases s <;> rw [h]
  · exact hw
  · exact hP.congr (hP.push (wakeUp s).pc hw) rfl

theorem afterDispatch (hP : KeptByWrites P) (hs : P s) : P (afterDispatch s) :=
  hP.congr (hP.interruptPhase (s := countdown s) (hP.congr hs rfl)) (lastingPart_schedulerPhase _)

theorem dispatchPhase (hP : KeptByWrites P) (hs : P s) (h : dispatchPhase s = .next t) : P t := by
  obtain ⟨-, rfl⟩ | ⟨-, h⟩ := dispatchPhase_cases h
  · exact hs
  · exact hP.exec hs h

/-- What the writes keep, a whole step keeps. -/
theorem step (hP : KeptByWrites P) (hs : P s) (h : step s = .next t) : P t := by
  obtain ⟨-, rfl⟩ | ⟨-, u, hu, rfl⟩ := step_cases h
  · exact hs
  · exact hP.afterDispatch (hP.dispatchPhase (s := release s) (hP.congr hs rfl) hu)

end KeptByWrites

/-! ### Legal states (10_state.md R26, R35; 20_memory.md R65, R77, R78) -/

theorem legal_iff {s : State} :
    legal s = true ↔ memoriesWf s = true ∧ flagsWf s = true ∧ bankWf s = true ∧ timerWf s = true := by
  simp [legal, and_assoc]

theorem flagsWf_iff {s : State} : flagsWf s = true ↔ s.f &&& 0x0F = 0 := decide_eq_true_iff

theorem bankWf_iff {s : State} :
    bankWf s = true ↔ s.wramBank ≠ 0 ∧ (s.params.enhanced = false → s.wramBank = 1) := by
  cases h : s.params.enhanced <;> simp [bankWf, h]

theorem timerWf_iff {s : State} :
    timerWf s = true ↔ (s.params.ioHandler = .reference →
      s.timerEnabled = s.tac.getLsbD 2 ∧ s.timaRate = s.tac.extractLsb' 0 2) := by
  cases h : s.params.ioHandler <;> simp [timerWf, h]

/-- The bank register never selects bank 0 (R78). -/
theorem bankOf_ne_zero (v : Byte) : bankOf v ≠ 0 := by
  unfold bankOf
  split
  · decide
  · assumption

/-- A handler's effect never selects bank 0 (R35, R74). -/
theorem ofNat_bankLess1_ne_zero (k : Fin 7) : BitVec.ofNat 3 (k.val + 1) ≠ 0 := by
  revert k; decide

/-- What either I/O handler does to the bank selector (R74, R78): nothing, or with ENHANCED a bank that is not 0. -/
theorem ioWrite_wramBank_cases (o v : Byte) (s : State) :
    (ioWrite o v s).wramBank = s.wramBank ∨ (s.params.enhanced = true ∧ (ioWrite o v s).wramBank ≠ 0) := by
  cases he : s.params.enhanced <;> cases hh : s.params.ioHandler
  · exact .inl (by simp [ioWrite_reference o v hh, referenceIoWrite, he])
  · exact .inl (by simp [ioWrite_supplied o v hh, suppliedIoWrite, applyIoEffect, he])
  · by_cases ho : o = 0x70#8
    · subst ho
      exact .inr ⟨rfl, by simpa [ioWrite_reference _ v hh, referenceIoWrite, he] using bankOf_ne_zero v⟩
    · exact .inl (by simp [ioWrite_reference o v hh, referenceIoWrite, ho])
  · exact .inr ⟨rfl, by
      simpa [ioWrite_supplied o v hh, suppliedIoWrite, applyIoEffect, he] using ofNat_bankLess1_ne_zero _⟩

theorem ioWrite_bankWf (o v : Byte) {s : State} (h : bankWf s = true) : bankWf (ioWrite o v s) = true := by
  rw [bankWf_iff] at h ⊢
  obtain hb | ⟨he, hb⟩ := ioWrite_wramBank_cases o v s
  · simpa [hb] using h
  · exact ⟨hb, by simp [he]⟩

theorem busWrite_bankWf (a : Word) (v : Byte) {s : State} (h : bankWf s = true) : bankWf (busWrite a v s) = true := by
  unfold busWrite
  cases regionOf a
  case io => exact ioWrite_bankWf _ _ h
  all_goals exact h

/-- The reference handler takes the timer's settings from the byte it stores in the timer control (R77). -/
theorem referenceIoWrite_timerWf (o v : Byte) {s : State} (h : timerWf s = true) :
    timerWf (referenceIoWrite o v s) = true := by
  by_cases ho : o = 0x07#8
  · subst ho
    exact timerWf_iff.2 fun _ => ⟨rfl, rfl⟩
  · rw [timerWf_iff] at h ⊢
    simpa [referenceIoWrite, ioSet, ho] using h

theorem ioWrite_timerWf (o v : Byte) {s : State} (h : timerWf s = true) : timerWf (ioWrite o v s) = true := by
  cases hh : s.params.ioHandler with
  | reference => rw [ioWrite_reference o v hh]; exact referenceIoWrite_timerWf o v h
  | supplied => exact timerWf_iff.2 (by simp [hh])

theorem busWrite_timerWf (a : Word) (v : Byte) {s : State} (h : timerWf s = true) :
    timerWf (busWrite a v s) = true := by
  unfold busWrite
  cases regionOf a
  case io => exact ioWrite_timerWf _ _ h
  all_goals exact h

theorem busWrite_flagsWf (a : Word) (v : Byte) {s : State} (h : flagsWf s = true) :
    flagsWf (busWrite a v s) = true := by
  simpa [flagsWf_iff] using h

theorem legal_keptByWrites : KeptByWrites (legal · = true) where
  of_lasting _ := Iff.rfl
  flags hf hs := by
    obtain ⟨hm, -, hb, ht⟩ := legal_iff.1 hs
    exact legal_iff.2 ⟨hm, flagsWf_iff.2 hf, hb, ht⟩
  bus a v hs := by
    obtain ⟨hm, hf, hb, ht⟩ := legal_iff.1 hs
    exact legal_iff.2
      ⟨busWrite_memoriesWf a v hm, busWrite_flagsWf a v hf, busWrite_bankWf a v hb, busWrite_timerWf a v ht⟩

/-- Settles O3: legality is a property of the lasting part, kept by flag writes and bus writes, so every step keeps
it. -/
theorem stepKeepsLegalStates : Obligations.StepKeepsLegalStates :=
  fun _ _ hs h => legal_keptByWrites.step hs h

/-- Settles O2: no memory but the image holds a cell, `F` is 0xB0, the bank is 1, and the timer's settings are read off
the timer control. -/
theorem resetIsLegal : Obligations.ResetIsLegal := by
  have hreset (p : Params) (rom : Memory) (hr : memWf 32768 rom = true) : legal (State.resetWith p rom) = true :=
    legal_iff.2 ⟨by simp [memoriesWf, State.resetWith, hr], flagsWf_iff.2 (by decide : (0xB0 : Byte) &&& 0x0F = 0),
      bankWf_iff.2 ⟨(by decide : (1 : BitVec 3) ≠ 0), fun _ => rfl⟩, timerWf_iff.2 fun _ => ⟨rfl, rfl⟩⟩
  exact ⟨hreset resetParams [] rfl, hreset⟩

/-! ### The host's settings (10_state.md R34, R41; 20_memory.md R71, R74) -/

/-- The settings that the host alone changes, between steps: the double-speed switch, the parameters, the image, the
termination flag, the frame signal and a supplied I/O handler's inputs. -/
def hostSettings (s : State) : Bool × Params × Memory × Bool × Bool × CollabState :=
  (s.doubleSpeed, s.params, s.rom, s.terminate, s.frameComposed, s.ioInput)

theorem hostSettings_busWrite (a : Word) (v : Byte) (s : State) : hostSettings (busWrite a v s) = hostSettings s := by
  simp [hostSettings]

theorem hostSettings_keptByWrites (s₀ : State) : KeptByWrites (hostSettings · = hostSettings s₀) where
  of_lasting _ := Iff.rfl
  flags _ hs := hs
  bus a v hs := (hostSettings_busWrite a v _).trans hs

/-- Settles O4: the settings belong to the lasting part, and neither a flag write nor a bus write touches them. -/
theorem stepKeepsHostSettings : Obligations.StepKeepsHostSettings := by
  intro s t h
  have hset : hostSettings t = hostSettings s := (hostSettings_keptByWrites s).step rfl h
  simpa [hostSettings] using hset

/-! ### The phases after the dispatch -/

/-- The registers `A` to `L` and `F`. -/
def dataRegisters (s : State) : List Byte := [s.a, s.b, s.c, s.d, s.e, s.h, s.l, s.f]

theorem dataRegisters_serviceInterrupt (k : IntClass) (s : State) :
    dataRegisters (serviceInterrupt k s) = dataRegisters s := by
  simp [dataRegisters, serviceInterrupt]

theorem dataRegisters_interruptPhase (s : State) : dataRegisters (interruptPhase s) = dataRegisters s := by
  obtain h | ⟨k, -, h⟩ := interruptPhase_cases s <;> rw [h]
  · rfl
  · exact dataRegisters_serviceInterrupt k _

/-- Settles O43: of the phases after the dispatch only the service of an interrupt writes memory, `SP` or `PC`, and its
push leaves the data registers alone. -/
theorem laterPhasesKeepAToLAndF : Obligations.LaterPhasesKeepAToLAndF := by
  intro s
  constructor
  · have h := dataRegisters_interruptPhase (countdown s)
    simpa [dataRegisters, schedulerPhase] using h
  · intro hp
    have hw : interruptPhase (countdown s) = wakeUp (countdown s) := interruptPhase_of_none_pending hp
    rw [hw]
    simp [schedulerPhase]

/-! ### Operand fields (10_state.md R21, R22, R24) -/

theorem setHL_join (x y : Byte) (s : State) : setHL (join x y) s = { s with h := x, l := y } := by
  simp [setHL]

/-- Settles O11: each register of the operand field is a field of the state, `H` and `L` being the halves of `HL`. -/
theorem operandFields : Obligations.OperandFields := by
  intro s v w
  have hh : hi8 s.hl = s.h := hi8_join s.h s.l
  have hl : lo8 s.hl = s.l := lo8_join s.h s.l
  refine ⟨⟨rfl, rfl, rfl, rfl, hh.symm, hl.symm, rfl, rfl⟩, ⟨rfl, rfl, rfl, rfl, ?_, ?_, rfl, rfl⟩,
    ⟨rfl, rfl, rfl, join_hi8_lo8 w, join_hi8_lo8 w, join_hi8_lo8 w⟩, rfl, rfl, rfl⟩
  · exact ((congrArg (setHL · s) (congrArg (join v) hl)).trans (setHL_join v s.l s)).symm
  · exact ((congrArg (setHL · s) (congrArg (join · v) hh)).trans (setHL_join s.h v s)).symm

/-! ### What each shared operation does to `F` and to `SP` (10_state.md R25, R26) -/

section

variable {s t : State}

/-! The operations that move `SP` keep `F`. -/

theorem loadPairImm_f {p : Pair} {nn : Word} (h : loadPairImm p nn s = .next t) : t.f = s.f := by
  cases h; simp
theorem increment16_f {p : Pair} (h : increment16 p s = .next t) : t.f = s.f := by cases h; simp
theorem decrement16_f {p : Pair} (h : decrement16 p s = .next t) : t.f = s.f := by cases h; simp
theorem loadSPFromHL_f (h : loadSPFromHL s = .next t) : t.f = s.f := by cases h; simp
theorem pushRegister_f {p : PairAF} (h : pushRegister p s = .next t) : t.f = s.f := by cases h; simp
theorem popRegister_f {p : PairAF} (hp : p ≠ .af) (h : popRegister p s = .next t) : t.f = s.f := by
  cases h
  cases p
  case af => exact absurd rfl hp
  all_goals rfl
theorem call_f {taken : Bool} {nn : Word} (h : call taken nn s = .next t) : t.f = s.f := by
  cases h; cases taken <;> simp
theorem ret_f {taken : Bool} (h : ret taken s = .next t) : t.f = s.f := by cases h; cases taken <;> simp
theorem reti_f (h : execReti s = .next t) : t.f = s.f := by cases h; simp
theorem restart_f {k : Nat} (h : restart k s = .next t) : t.f = s.f := by cases h; simp

/-! The loads, the stores, `RES`, `SET`, the jumps and the system instructions keep both. -/

theorem load8_f_sp {dst src : Operand8} (h : load8 dst src s = .next t) : t.f = s.f ∧ t.sp = s.sp := by
  cases h; simp
theorem loadImm8_f_sp {dst : Operand8} {n : Byte} (h : loadImm8 dst n s = .next t) : t.f = s.f ∧ t.sp = s.sp := by
  cases h; simp
theorem storeA_f_sp {length : Nat} {addr : Word} (h : storeA length addr s = .next t) : t.f = s.f ∧ t.sp = s.sp := by
  cases h; simp
theorem loadA_f_sp {length : Nat} {addr : Word} (h : loadA length addr s = .next t) : t.f = s.f ∧ t.sp = s.sp := by
  cases h; simp
theorem storeAStep_f_sp {delta : Word} (h : storeAStep delta s = .next t) : t.f = s.f ∧ t.sp = s.sp := by
  cases h; simp
theorem loadAStep_f_sp {delta : Word} (h : loadAStep delta s = .next t) : t.f = s.f ∧ t.sp = s.sp := by
  cases h; simp
theorem storeSP_f_sp {nn : Word} (h : storeSP nn s = .next t) : t.f = s.f ∧ t.sp = s.sp := by
  cases h; simp [busWrite16]
theorem writePair_sp_of_ne {p : Pair} (hp : p ≠ .sp) (w : Word) (s : State) : (writePair p w s).sp = s.sp := by
  cases p
  case sp => exact absurd rfl hp
  all_goals rfl
theorem loadPairImm_f_sp {p : Pair} {nn : Word} (hp : p ≠ .sp) (h : loadPairImm p nn s = .next t) :
    t.f = s.f ∧ t.sp = s.sp := by
  cases h; simp [writePair_sp_of_ne hp]
theorem increment16_f_sp {p : Pair} (hp : p ≠ .sp) (h : increment16 p s = .next t) : t.f = s.f ∧ t.sp = s.sp := by
  cases h; simp [writePair_sp_of_ne hp]
theorem decrement16_f_sp {p : Pair} (hp : p ≠ .sp) (h : decrement16 p s = .next t) : t.f = s.f ∧ t.sp = s.sp := by
  cases h; simp [writePair_sp_of_ne hp]
theorem resetBit_f_sp {b : Nat} {r : Operand8} (h : resetBit b r s = .next t) : t.f = s.f ∧ t.sp = s.sp := by
  cases h; simp
theorem setBit_f_sp {b : Nat} {r : Operand8} (h : setBit b r s = .next t) : t.f = s.f ∧ t.sp = s.sp := by
  cases h; simp
theorem jump_f_sp {target : Word} (h : jump target s = .next t) : t.f = s.f ∧ t.sp = s.sp := by cases h; simp
theorem jumpIf_f_sp {cc : Cond} {nn : Word} (h : jumpIf cc nn s = .next t) : t.f = s.f ∧ t.sp = s.sp := by
  cases h; simp
theorem jumpRelative_f_sp {taken : Bool} {e : Int} (h : jumpRelative taken e s = .next t) :
    t.f = s.f ∧ t.sp = s.sp := by
  cases h; simp
theorem noOperation_f_sp {length : Nat} (h : noOperation length s = .next t) : t.f = s.f ∧ t.sp = s.sp := by
  cases h; simp
theorem haltCore_f_sp (h : haltCore s = .next t) : t.f = s.f ∧ t.sp = s.sp := by cases h; simp
theorem disableInterrupts_f_sp (h : disableInterrupts s = .next t) : t.f = s.f ∧ t.sp = s.sp := by cases h; simp
theorem enableInterrupts_f_sp (h : enableInterrupts s = .next t) : t.f = s.f ∧ t.sp = s.sp := by cases h; simp
theorem unknownOpcode_f_sp {opcode : Byte} (h : unknownOpcode opcode s = .next t) : t.f = s.f ∧ t.sp = s.sp := by
  cases h; simp

/-! The operations that write flags keep `SP`. -/

theorem aluApply_sp (op : AluOp) (v : Byte) (s : State) : (aluApply op v s).sp = s.sp := by cases op <;> rfl
theorem aluOperand_sp {op : AluOp} {r : Operand8} (h : aluOperand op r s = .next t) : t.sp = s.sp := by
  cases h; exact aluApply_sp _ _ _
theorem aluImmediate_sp {op : AluOp} {n : Byte} (h : aluImmediate op n s = .next t) : t.sp = s.sp := by
  cases h; exact aluApply_sp _ _ _
theorem increment8_sp {dst : Operand8} (h : increment8 dst s = .next t) : t.sp = s.sp := by cases h; simp
theorem decrement8_sp {dst : Operand8} (h : decrement8 dst s = .next t) : t.sp = s.sp := by cases h; simp
theorem decimalAdjust_sp (h : decimalAdjust s = .next t) : t.sp = s.sp := by cases h; simp
theorem complementA_sp (h : complementA s = .next t) : t.sp = s.sp := by cases h; simp
theorem setCarry_sp (h : setCarry s = .next t) : t.sp = s.sp := by cases h; simp
theorem complementCarry_sp (h : complementCarry s = .next t) : t.sp = s.sp := by cases h; simp
theorem addHL_sp {p : Pair} (h : addHL p s = .next t) : t.sp = s.sp := by cases h; simp
theorem loadHLFromSPOffset_sp {e : Int} (h : loadHLFromSPOffset e s = .next t) : t.sp = s.sp := by cases h; simp
theorem rotateA_sp {r : Shifted} (h : rotateA r s = .next t) : t.sp = s.sp := by cases h; simp
theorem rotateOperand_sp {op : RotOp} {r : Operand8} (h : rotateOperand op r s = .next t) : t.sp = s.sp := by
  cases h; simp
theorem testBit_sp {b : Nat} {r : Operand8} (h : testBit b r s = .next t) : t.sp = s.sp := by cases h; simp

end

/-- The table of flag-writing opcodes lists the encoding of `i`. -/
def listedFlagWriter (i : Instr) : Bool := writesFlags ((encode i).headD 0) ((encode i).getD 1 0)

/-- Outside the CB space the table looks at the opcode byte alone: with the sub-opcode 0x80 the CB clause is false. -/
theorem listedFlagWriter_of_opcode {i : Instr} {op : Byte} {rest : List Byte} (he : encode i = op :: rest)
    (h : writesFlags op 0x80 = true) : listedFlagWriter i = true := by
  unfold listedFlagWriter writesFlags at *
  rw [he, List.headD_cons, Bool.or_eq_true]
  rw [Bool.or_eq_true] at h
  exact .inl (h.resolve_right (by simp))

/-- `F` and `SP` change only where the tables say so. -/
def KeepsUnlisted (i : Instr) (s t : State) : Prop :=
  (listedFlagWriter i = false → t.f = s.f) ∧ (movesSP i = false → t.sp = s.sp)

namespace KeepsUnlisted

variable {i : Instr} {s t : State}

theorem of_both_kept (h : t.f = s.f ∧ t.sp = s.sp) : KeepsUnlisted i s t := ⟨fun _ => h.1, fun _ => h.2⟩

theorem of_flagWriter (hw : listedFlagWriter i = true) (h : t.sp = s.sp) : KeepsUnlisted i s t :=
  ⟨fun hn => absurd hn (by simp [hw]), fun _ => h⟩

theorem of_movesSP (hm : movesSP i = true) (h : t.f = s.f) : KeepsUnlisted i s t :=
  ⟨fun _ => h, fun hn => absurd hn (by simp [hm])⟩

theorem of_both_listed (hw : listedFlagWriter i = true) (hm : movesSP i = true) : KeepsUnlisted i s t :=
  ⟨fun hn => absurd hn (by simp [hw]), fun hn => absurd hn (by simp [hm])⟩

end KeepsUnlisted

/-- Every instruction is one of a shared operation, whose own rule says what it keeps; the tables list the others. -/
theorem exec_keepsUnlisted {i : Instr} {s t : State} (h : exec i s = .next t) : KeepsUnlisted i s t := by
  cases i
  case nop | stopN => exact .of_both_kept (noOperation_f_sp h)
  case ldBCNn | ldDENn | ldHLNn => exact .of_both_kept (loadPairImm_f_sp (by decide) h)
  case ldAtBCA | ldAtDEA | ldhAtNA | ldAtCA | ldAtNnA => exact .of_both_kept (storeA_f_sp h)
  case incBC | incDE | incHL => exact .of_both_kept (increment16_f_sp (by decide) h)
  case ldBN | ldCN | ldDN | ldEN | ldHN | ldLN | ldAtHLN | ldAN => exact .of_both_kept (loadImm8_f_sp h)
  case ldAtNnSP => exact .of_both_kept (storeSP_f_sp h)
  case ldAAtBC | ldAAtDE | ldhAAtN | ldAAtC | ldAAtNn => exact .of_both_kept (loadA_f_sp h)
  case decBC | decDE | decHL => exact .of_both_kept (decrement16_f_sp (by decide) h)
  case jrE | jrNZE | jrZE | jrNCE | jrCE => exact .of_both_kept (jumpRelative_f_sp h)
  case ldAtHLIncA | ldAtHLDecA => exact .of_both_kept (storeAStep_f_sp h)
  case ldAAtHLInc | ldAAtHLDec => exact .of_both_kept (loadAStep_f_sp h)
  case ldBB | ldBC | ldBD | ldBE | ldBH | ldBL | ldBAtHL | ldBA | ldCB | ldCC | ldCD | ldCE | ldCH | ldCL |
      ldCAtHL | ldCA | ldDB | ldDC | ldDD | ldDE | ldDH | ldDL | ldDAtHL | ldDA | ldEB | ldEC | ldED | ldEE | ldEH |
      ldEL | ldEAtHL | ldEA | ldHB | ldHC | ldHD | ldHE | ldHH | ldHL | ldHAtHL | ldHA | ldLB | ldLC | ldLD | ldLE |
      ldLH | ldLL | ldLAtHL | ldLA | ldAtHLB | ldAtHLC | ldAtHLD | ldAtHLE | ldAtHLH | ldAtHLL | ldAtHLA | ldAB |
      ldAC | ldAD | ldAE | ldAH | ldAL | ldAAtHL | ldAA =>
    exact .of_both_kept (load8_f_sp h)
  case halt => exact .of_both_kept (haltCore_f_sp h)
  case jpNZNn | jpZNn | jpNCNn | jpCNn => exact .of_both_kept (jumpIf_f_sp h)
  case jpNn | jpAtHL => exact .of_both_kept (jump_f_sp h)
  case unknownD3 | unknownDB | unknownDD | unknownE3 | unknownE4 | unknownEB | unknownEC | unknownED | unknownF4 |
      unknownFC | unknownFD =>
    exact .of_both_kept (unknownOpcode_f_sp h)
  case di => exact .of_both_kept (disableInterrupts_f_sp h)
  case ei => exact .of_both_kept (enableInterrupts_f_sp h)
  case res0B | res0C | res0D | res0E | res0H | res0L | res0AtHL | res0A | res1B | res1C | res1D | res1E | res1H |
      res1L | res1AtHL | res1A | res2B | res2C | res2D | res2E | res2H | res2L | res2AtHL | res2A | res3B | res3C |
      res3D | res3E | res3H | res3L | res3AtHL | res3A | res4B | res4C | res4D | res4E | res4H | res4L | res4AtHL |
      res4A | res5B | res5C | res5D | res5E | res5H | res5L | res5AtHL | res5A | res6B | res6C | res6D | res6E |
      res6H | res6L | res6AtHL | res6A | res7B | res7C | res7D | res7E | res7H | res7L | res7AtHL | res7A =>
    exact .of_both_kept (resetBit_f_sp h)
  case set0B | set0C | set0D | set0E | set0H | set0L | set0AtHL | set0A | set1B | set1C | set1D | set1E | set1H |
      set1L | set1AtHL | set1A | set2B | set2C | set2D | set2E | set2H | set2L | set2AtHL | set2A | set3B | set3C |
      set3D | set3E | set3H | set3L | set3AtHL | set3A | set4B | set4C | set4D | set4E | set4H | set4L | set4AtHL |
      set4A | set5B | set5C | set5D | set5E | set5H | set5L | set5AtHL | set5A | set6B | set6C | set6D | set6E |
      set6H | set6L | set6AtHL | set6A | set7B | set7C | set7D | set7E | set7H | set7L | set7AtHL | set7A =>
    exact .of_both_kept (setBit_f_sp h)
  case incB | incC | incD | incE | incH | incL | incAtHL | incA => exact .of_flagWriter rfl (increment8_sp h)
  case decB | decC | decD | decE | decH | decL | decAtHL | decA => exact .of_flagWriter rfl (decrement8_sp h)
  case rlca | rrca | rla | rra => exact .of_flagWriter rfl (rotateA_sp h)
  case addHLBC | addHLDE | addHLHL | addHLSP => exact .of_flagWriter rfl (addHL_sp h)
  case daa => exact .of_flagWriter rfl (decimalAdjust_sp h)
  case cpl => exact .of_flagWriter rfl (complementA_sp h)
  case scf => exact .of_flagWriter rfl (setCarry_sp h)
  case ccf => exact .of_flagWriter rfl (complementCarry_sp h)
  case addAB | addAC | addAD | addAE | addAH | addAL | addAAtHL | addAA | adcAB | adcAC | adcAD | adcAE | adcAH |
      adcAL | adcAAtHL | adcAA | subB | subC | subD | subE | subH | subL | subAtHL | subA | sbcAB | sbcAC | sbcAD |
      sbcAE | sbcAH | sbcAL | sbcAAtHL | sbcAA | andB | andC | andD | andE | andH | andL | andAtHL | andA | xorB |
      xorC | xorD | xorE | xorH | xorL | xorAtHL | xorA | orB | orC | orD | orE | orH | orL | orAtHL | orA | cpB |
      cpC | cpD | cpE | cpH | cpL | cpAtHL | cpA =>
    exact .of_flagWriter rfl (aluOperand_sp h)
  case addAN | adcAN | subN | sbcAN | andN | xorN | orN | cpN =>
    exact .of_flagWriter (listedFlagWriter_of_opcode rfl rfl) (aluImmediate_sp h)
  case ldHLSPE => exact .of_flagWriter (listedFlagWriter_of_opcode rfl rfl) (loadHLFromSPOffset_sp h)
  case rlcB | rlcC | rlcD | rlcE | rlcH | rlcL | rlcAtHL | rlcA | rrcB | rrcC | rrcD | rrcE | rrcH | rrcL |
      rrcAtHL | rrcA | rlB | rlC | rlD | rlE | rlH | rlL | rlAtHL | rlA | rrB | rrC | rrD | rrE | rrH | rrL |
      rrAtHL | rrA | slaB | slaC | slaD | slaE | slaH | slaL | slaAtHL | slaA | sraB | sraC | sraD | sraE | sraH |
      sraL | sraAtHL | sraA | swapB | swapC | swapD | swapE | swapH | swapL | swapAtHL | swapA | srlB | srlC |
      srlD | srlE | srlH | srlL | srlAtHL | srlA =>
    exact .of_flagWriter rfl (rotateOperand_sp h)
  case bit0B | bit0C | bit0D | bit0E | bit0H | bit0L | bit0AtHL | bit0A | bit1B | bit1C | bit1D | bit1E | bit1H |
      bit1L | bit1AtHL | bit1A | bit2B | bit2C | bit2D | bit2E | bit2H | bit2L | bit2AtHL | bit2A | bit3B | bit3C |
      bit3D | bit3E | bit3H | bit3L | bit3AtHL | bit3A | bit4B | bit4C | bit4D | bit4E | bit4H | bit4L | bit4AtHL |
      bit4A | bit5B | bit5C | bit5D | bit5E | bit5H | bit5L | bit5AtHL | bit5A | bit6B | bit6C | bit6D | bit6E |
      bit6H | bit6L | bit6AtHL | bit6A | bit7B | bit7C | bit7D | bit7E | bit7H | bit7L | bit7AtHL | bit7A =>
    exact .of_flagWriter rfl (testBit_sp h)
  case ldSPHL => exact .of_movesSP rfl (loadSPFromHL_f h)
  case pushBC | pushDE | pushHL | pushAF => exact .of_movesSP rfl (pushRegister_f h)
  case popBC | popDE | popHL => exact .of_movesSP rfl (popRegister_f (by decide) h)
  case callNZNn | callZNn | callNn | callNCNn | callCNn => exact .of_movesSP rfl (call_f h)
  case retNZ | retZ | ret | retNC | retC => exact .of_movesSP rfl (ret_f h)
  case reti => exact .of_movesSP rfl (reti_f h)
  case rst00 | rst08 | rst10 | rst18 | rst20 | rst28 | rst30 | rst38 => exact .of_movesSP rfl (restart_f h)
  case ldSPNn => exact .of_movesSP rfl (loadPairImm_f h)
  case incSP => exact .of_movesSP rfl (increment16_f h)
  case decSP => exact .of_movesSP rfl (decrement16_f h)
  case addSPE | popAF => exact .of_both_listed (listedFlagWriter_of_opcode rfl rfl) rfl

/-- Settles O42: instruction by instruction, either the tables list it or its shared operation keeps the register. -/
theorem instructionsKeepFlagsAndStackPointer : Obligations.InstructionsKeepFlagsAndStackPointer :=
  fun _ _ _ h => exec_keepsUnlisted h

end Sys2Proof.Machine

namespace Sys2Proof.Machine

/-! ### The address map by its bounds (20_memory.md R61) -/

/-- The first address of a row of the map. -/
def Region.first : Region → Nat
  | .cartRom => 0x0000
  | .display => 0x8000
  | .cartRam => 0xA000
  | .wramLow => 0xC000
  | .wramBanked => 0xD000
  | .mirror => 0xE000
  | .oam => 0xFE00
  | .io => 0xFF00

/-- The last address of a row of the map. -/
def Region.last : Region → Nat
  | .cartRom => 0x7FFF
  | .display => 0x9FFF
  | .cartRam => 0xBFFF
  | .wramLow => 0xCFFF
  | .wramBanked => 0xDFFF
  | .mirror => 0xFDFF
  | .oam => 0xFEFF
  | .io => 0xFFFF

theorem Region.rows_disjoint (q r : Region) : q = r ∨ q.last < r.first ∨ r.last < q.first := by
  cases q <;> cases r <;> decide

theorem regionOf_bounds (a : Word) : (regionOf a).first ≤ a.toNat ∧ a.toNat ≤ (regionOf a).last := by
  have ha := a.isLt
  have hr := regionOf_range a
  cases h : regionOf a <;> simp only [h] at hr <;> simp only [Region.first, Region.last] <;> omega

/-- An address is in a row of the map exactly when it is within the row's bounds. -/
theorem regionOf_eq_iff {a : Word} {r : Region} : regionOf a = r ↔ r.first ≤ a.toNat ∧ a.toNat ≤ r.last := by
  have hb := regionOf_bounds a
  constructor
  · rintro rfl
    exact hb
  · intro hr
    obtain h | h | h := Region.rows_disjoint (regionOf a) r
    · exact h
    all_goals omega

theorem wramIndex_low (bank : BitVec 3) {a : Word} (h : regionOf a = .wramLow) :
    wramIndex bank a = a.toNat - 0xC000 := by
  obtain ⟨hlo, hhi⟩ : 0xC000 ≤ a.toNat ∧ a.toNat ≤ 0xCFFF := regionOf_eq_iff.1 h
  unfold wramIndex
  rw [if_pos (BitVec.le_def.2 hhi)]
  bv_omega

theorem wramIndex_banked (bank : BitVec 3) {a : Word} (h : regionOf a = .wramBanked) :
    wramIndex bank a = a.toNat - 0xD000 + bank.toNat * 4096 := by
  obtain ⟨hlo, hhi⟩ : 0xD000 ≤ a.toNat ∧ a.toNat ≤ 0xDFFF := regionOf_eq_iff.1 h
  have hn : ¬ a ≤ 0xCFFF := by bv_omega
  have hs : (a - 0xD000).toNat = a.toNat - 0xD000 := by bv_omega
  unfold wramIndex
  rw [if_neg hn, hs]

theorem lo8_toNat (a : Word) : (lo8 a).toNat = a.toNat % 256 := by
  simp [lo8]

/-- The offset of an address of the I/O row. -/
theorem lo8_of_io {a : Word} (h : 0xFF00 ≤ a.toNat) : lo8 a = BitVec.ofNat 8 (a.toNat - 0xFF00) := by
  have ha := a.isLt
  apply BitVec.eq_of_toNat_eq
  rw [lo8_toNat, BitVec.toNat_ofNat]
  omega

/-! The mirror (R66) lies 0x2000 above the two windows of the work RAM. -/

theorem regionOf_unmirrored {a : Word} (h : regionOf a = .mirror) :
    regionOf (a - 0x2000) = .wramLow ∨ regionOf (a - 0x2000) = .wramBanked := by
  obtain ⟨hlo, hhi⟩ : 0xE000 ≤ a.toNat ∧ a.toNat ≤ 0xFDFF := regionOf_eq_iff.1 h
  have hs : (a - 0x2000).toNat = a.toNat - 0x2000 := by bv_omega
  simp only [regionOf_eq_iff, Region.first, Region.last, hs]
  omega

theorem busRead_wram {a : Word} (h : regionOf a = .wramLow ∨ regionOf a = .wramBanked) (s : State) :
    busRead a s = wramRead a s := by
  unfold busRead
  obtain h | h := h <;> rw [h]

theorem busWrite_wram {a : Word} (h : regionOf a = .wramLow ∨ regionOf a = .wramBanked) (v : Byte) (s : State) :
    busWrite a v s = wramWrite a v s := by
  unfold busWrite
  obtain h | h := h <;> rw [h]

theorem busRead_mirror {a : Word} (h : regionOf a = .mirror) (s : State) : busRead a s = busRead (a - 0x2000) s := by
  rw [busRead_wram (regionOf_unmirrored h)]
  unfold busRead
  rw [h]

theorem busWrite_mirror {a : Word} (h : regionOf a = .mirror) (v : Byte) (s : State) :
    busWrite a v s = busWrite (a - 0x2000) v s := by
  rw [busWrite_wram (regionOf_unmirrored h)]
  unfold busWrite
  rw [h]

/-- Settles O44: within the bounds of a row, `busRead` is that row's access. -/
theorem busReadMap : Obligations.BusReadMap := by
  intro s a
  refine ⟨fun h => ?_, fun h h' => ?_, fun h h' => ?_, fun h h' => ?_, fun h h' => ?_, fun h h' => ?_, fun h h' => ?_,
    fun h => ?_⟩
  · have hr : regionOf a = .cartRom := regionOf_eq_iff.2 ⟨Nat.zero_le _, h⟩
    simp only [busRead, hr]
  · have hr : regionOf a = .display := regionOf_eq_iff.2 ⟨h, h'⟩
    simp only [busRead, hr]
  · have hr : regionOf a = .cartRam := regionOf_eq_iff.2 ⟨h, h'⟩
    simp only [busRead, hr]
  · have hr : regionOf a = .wramLow := regionOf_eq_iff.2 ⟨h, h'⟩
    rw [busRead_wram (.inl hr), wramRead, wramIndex_low _ hr]
  · have hr : regionOf a = .wramBanked := regionOf_eq_iff.2 ⟨h, h'⟩
    rw [busRead_wram (.inr hr), wramRead, wramIndex_banked _ hr]
  · exact busRead_mirror (regionOf_eq_iff.2 ⟨h, h'⟩) s
  · have hr : regionOf a = .oam := regionOf_eq_iff.2 ⟨h, h'⟩
    have hi : (a - 0xFE00).toNat = a.toNat - 0xFE00 := by bv_omega
    simp only [busRead, hr, hi]
  · have hr : regionOf a = .io := regionOf_eq_iff.2 ⟨h, Nat.le_of_lt_succ a.isLt⟩
    simp only [busRead, hr, lo8_of_io h]

/-- Settles O45: within the bounds of a row, `busWrite` is that row's access. -/
theorem busWriteMap : Obligations.BusWriteMap := by
  intro s a v
  refine ⟨fun h => ?_, fun h h' => ?_, fun h h' => ?_, fun h h' => ?_, fun h h' => ?_, fun h h' => ?_, fun h h' => ?_,
    fun h => ?_⟩
  · have hr : regionOf a = .cartRom := regionOf_eq_iff.2 ⟨Nat.zero_le _, h⟩
    simp only [busWrite, hr]
  · have hr : regionOf a = .display := regionOf_eq_iff.2 ⟨h, h'⟩
    simp only [busWrite, hr]
  · have hr : regionOf a = .cartRam := regionOf_eq_iff.2 ⟨h, h'⟩
    simp only [busWrite, hr]
  · have hr : regionOf a = .wramLow := regionOf_eq_iff.2 ⟨h, h'⟩
    rw [busWrite_wram (.inl hr), wramWrite, wramIndex_low _ hr]
  · have hr : regionOf a = .wramBanked := regionOf_eq_iff.2 ⟨h, h'⟩
    rw [busWrite_wram (.inr hr), wramWrite, wramIndex_banked _ hr]
  · exact busWrite_mirror (regionOf_eq_iff.2 ⟨h, h'⟩) v s
  · have hr : regionOf a = .oam := regionOf_eq_iff.2 ⟨h, h'⟩
    have hi : (a - 0xFE00).toNat = a.toNat - 0xFE00 := by bv_omega
    simp only [busWrite, hr, hi]
  · have hr : regionOf a = .io := regionOf_eq_iff.2 ⟨h, Nat.le_of_lt_succ a.isLt⟩
    simp only [busWrite, hr, lo8_of_io h]

/-! ### The stack (20_memory.md R82, 41_load16_stack.md R165 to R167) -/

/-- A push that ends with control going to `target`, as the statements write it. -/
theorem setPC_push (target w : Word) (s : State) : setPC target (push w s) = Claims.pushedAndGone w target s := rfl

theorem advance_push (n : Nat) (w : Word) (s : State) :
    advance n (push w s) = Claims.pushedAndGone w (s.pc + BitVec.ofNat 16 n) s := by
  rw [← setPC_push, ← push_pc w s]
  rfl

theorem hi8_popped (s : State) : hi8 (popped s) = busRead (s.sp + 1) s := hi8_join _ _

theorem lo8_popped (s : State) : lo8 (popped s) = busRead s.sp s := lo8_join _ _

theorem pushRegister_eq (p : PairAF) (s : State) :
    pushRegister p s = .next (Claims.pushedAndGone (readPairAF p s) (s.pc + 1) s) :=
  congrArg _ (advance_push 1 _ s)

/-- Settles O21: a push stores its word as the two bytes the statement names, and the halves of the word popped are the
two bytes read. -/
theorem pushAndPop : Obligations.PushAndPop := by
  intro s
  refine ⟨⟨⟨rfl, pushRegister_eq .bc s⟩, ⟨rfl, pushRegister_eq .de s⟩, ⟨rfl, pushRegister_eq .hl s⟩,
    ⟨rfl, pushRegister_eq .af s⟩⟩, ⟨rfl, ?_⟩, ⟨rfl, ?_⟩, ⟨rfl, ?_⟩, ⟨rfl, ?_⟩⟩
  all_goals
    rw [← hi8_popped, ← lo8_popped]
    rfl

/-! ### A read just after a write (20_memory.md R74, R76, R85) -/

theorem ioGet_referenceIoWrite_same (o v : Byte) (s : State) : ioGet o (referenceIoWrite o v s) = ioStored o v :=
  ioGet_ioSet_same o (ioStored o v) s

theorem isInterruptOffset_iff {o : Byte} : isInterruptOffset o = true ↔ o = 0x0F ∨ o = 0xFF := by
  simp [isInterruptOffset]

/-- Both handlers store IF and IE as written and return them as stored (R74). -/
theorem ioGet_ioWrite_interrupt {o : Byte} (ho : isInterruptOffset o = true) (v : Byte) (s : State) :
    ioGet o (ioWrite o v s) = v := by
  cases hh : s.params.ioHandler with
  | reference =>
    rw [ioWrite_reference o v hh, ioGet_referenceIoWrite_same]
    obtain rfl | rfl := isInterruptOffset_iff.1 ho <;> rfl
  | supplied =>
    rw [ioWrite_supplied o v hh]
    obtain rfl | rfl := isInterruptOffset_iff.1 ho <;> rfl

theorem ioRead_ioWrite_interrupt {o : Byte} (ho : isInterruptOffset o = true) (v : Byte) (s : State) :
    ioRead o (ioWrite o v s) = v := by
  rw [ioRead_interrupt _ ho, ioGet_ioWrite_interrupt ho]

theorem ioRead_ioWrite_reference {s : State} (h : s.params.ioHandler = .reference) (o v : Byte) :
    ioRead o (ioWrite o v s) = ioStored o v := by
  rw [ioRead_reference (by simpa using h), ioWrite_reference o v h, ioGet_referenceIoWrite_same]

theorem busRead_of_io {a : Word} (h : regionOf a = .io) (s : State) : busRead a s = ioRead (lo8 a) s := by
  simp only [busRead, h]

theorem busWrite_of_io {a : Word} (h : regionOf a = .io) (v : Byte) (s : State) :
    busWrite a v s = ioWrite (lo8 a) v s := by
  simp only [busWrite, h]

theorem wramRead_wramWrite (a : Word) (v : Byte) (s : State) : wramRead a (wramWrite a v s) = v :=
  readCell_memSet_same _ _ _ _

/-- The rows 0xC000 to 0xFEFF hold no byte of a collaborator: a read returns the byte just written. -/
theorem busRead_busWrite_same {a : Word} (hlo : 0xC000 ≤ a.toNat) (hhi : a.toNat < 0xFF00) (v : Byte) (s : State) :
    busRead a (busWrite a v s) = v := by
  have hb := regionOf_bounds a
  cases h : regionOf a <;> simp only [h, Region.first, Region.last] at hb <;> simp only [busRead, busWrite, h]
  case wramLow | wramBanked | mirror => exact wramRead_wramWrite _ v s
  case oam => exact readCell_memSet_same _ _ _ _
  all_goals omega

/-- An address of the I/O row is the one with its offset. -/
theorem eq_of_lo8 {a : Word} {o : Byte} (h : regionOf a = .io) (ho : lo8 a = o) : a = highPage o := by
  obtain ⟨hlo, -⟩ : 0xFF00 ≤ a.toNat ∧ a.toNat ≤ 0xFFFF := regionOf_eq_iff.1 h
  have ha : hi8 a = 0xFF := by
    apply BitVec.eq_of_toNat_eq
    have := a.isLt
    simp [hi8, Nat.shiftRight_eq_div_pow]
    omega
  rw [← join_hi8_lo8 a, ha, ho, highPage]

theorem ioStored_of_ne {o : Byte} (h04 : o ≠ 0x04) (h44 : o ≠ 0x44) (v : Byte) : ioStored o v = v :=
  if_neg (not_or.2 ⟨h44, h04⟩)

theorem plainStorage_iff {s : State} {a : Word} :
    plainStorage s a = true ↔ 0xC000 ≤ a.toNat ∧ (a.toNat < 0xFF00 ∨ a = 0xFF0F ∨ a = 0xFFFF ∨
      (s.params.ioHandler = .reference ∧ a ≠ 0xFF04 ∧ a ≠ 0xFF44)) := by
  simp [plainStorage, or_assoc, and_assoc]

theorem busRead_busWrite_of_plainStorage {s : State} {a : Word} (h : plainStorage s a = true) (v : Byte) :
    busRead a (busWrite a v s) = v := by
  obtain ⟨hlo, hplain⟩ := plainStorage_iff.1 h
  by_cases hhi : a.toNat < 0xFF00
  · exact busRead_busWrite_same hlo hhi v s
  have hr : regionOf a = .io := regionOf_eq_iff.2 ⟨Nat.le_of_not_lt hhi, Nat.le_of_lt_succ a.isLt⟩
  rw [busRead_of_io hr, busWrite_of_io hr]
  obtain hlt | rfl | rfl | ⟨hh, h04, h44⟩ := hplain
  · exact absurd hlt hhi
  · exact ioRead_ioWrite_interrupt rfl v s
  · exact ioRead_ioWrite_interrupt rfl v s
  · rw [ioRead_ioWrite_reference hh]
    exact ioStored_of_ne (fun ho => h04 (eq_of_lo8 hr ho)) (fun ho => h44 (eq_of_lo8 hr ho)) v

/-- Settles O49: plain storage returns the byte written, and the reference handler stores zero in the divider and the
scanline. -/
theorem readAfterWrite : Obligations.ReadAfterWrite := by
  refine fun s a v => ⟨fun h => busRead_busWrite_of_plainStorage h v, fun hh ha => ?_⟩
  have hr : regionOf a = .io := by obtain rfl | rfl := ha <;> decide
  rw [busRead_of_io hr, busWrite_of_io hr, ioRead_ioWrite_reference hh]
  obtain rfl | rfl := ha <;> rfl

/-! ### The collaborators' contracts (20_memory.md R70, R72, R74) -/

theorem displayOffset_setWidth (o : BitVec 13) : displayOffset (o.setWidth 16) = o := by
  have ho := o.isLt
  apply BitVec.eq_of_toNat_eq
  simpa [displayOffset] using ho

theorem regionOf_displayWindow (o : BitVec 13) : regionOf (0x8000 + o.setWidth 16) = .display := by
  have ho := o.isLt
  have hn : (0x8000 + o.setWidth 16 : Word).toNat = 0x8000 + o.toNat := by bv_omega
  simp only [regionOf_eq_iff, Region.first, Region.last, hn]
  omega

theorem displayWindow_sub (o : BitVec 13) : (0x8000 + o.setWidth 16 : Word) - 0x8000 = o.setWidth 16 := by
  bv_omega

theorem busRead_displayWindow (o : BitVec 13) (s : State) :
    busRead (0x8000 + o.setWidth 16) s = displayRead (o.setWidth 16) s := by
  simp only [busRead, regionOf_displayWindow, displayWindow_sub]

theorem busWrite_displayWindow (o : BitVec 13) (v : Byte) (s : State) :
    busWrite (0x8000 + o.setWidth 16) v s = displayWrite (o.setWidth 16) v s := by
  simp only [busWrite, regionOf_displayWindow, displayWindow_sub]

theorem sameCore_ioWrite (o v : Byte) (s : State) : Claims.sameCore s (ioWrite o v s) := by
  simp [Claims.sameCore]

/-- Away from IF and IE a supplied handler's write is its own effect. -/
theorem suppliedIoWrite_of_not_interrupt {o : Byte} (ho : isInterruptOffset o = false) (v : Byte) (s : State) :
    suppliedIoWrite o v s = applyIoEffect o (Config.IoHandler.write (handlerView s) o v) s := by
  have hif : o ≠ 0x0F := by rintro rfl; cases ho
  have hie : o ≠ 0xFF := by rintro rfl; cases ho
  simp only [suppliedIoWrite, if_neg hif, if_neg hie]

/-- The timer's settings are written at the timer control only (10_state.md R33). -/
theorem ioWrite_timer_of_ne {o : Byte} (ho : o ≠ 0x07) (v : Byte) (s : State) :
    (ioWrite o v s).timerEnabled = s.timerEnabled ∧ (ioWrite o v s).timaRate = s.timaRate := by
  cases hh : s.params.ioHandler with
  | reference =>
    rw [ioWrite_reference o v hh]
    exact ⟨if_neg ho, if_neg ho⟩
  | supplied =>
    rw [ioWrite_supplied o v hh]
    exact ⟨if_neg ho, if_neg ho⟩

theorem ioWrite_wramBank_ne_zero (o v : Byte) {s : State} (h : s.wramBank ≠ 0) : (ioWrite o v s).wramBank ≠ 0 := by
  obtain hb | ⟨-, hb⟩ := ioWrite_wramBank_cases o v s
  · rwa [hb]
  · exact hb

theorem ioWrite_wramBank_of_not_enhanced (o v : Byte) {s : State} (h : s.params.enhanced = false) :
    (ioWrite o v s).wramBank = s.wramBank := by
  obtain hb | ⟨he, -⟩ := ioWrite_wramBank_cases o v s
  · exact hb
  · rw [h] at he
    cases he

/-! What no bus access may see (60_exceptions.md R346; 10_state.md R28, R32, R41): putting other values there commutes
with a handler's access. -/

/-- `s` with other values of the events, `terminate`, `frame_composed`, the count and `IME`. -/
def withHidden (trace : List Event) (stop ready enable : Bool) (count : Nat) (s : State) : State :=
  { s with events := trace, terminate := stop, frameComposed := ready, instrCount := count, ime := enable }

section

variable (trace : List Event) (stop ready enable : Bool) (count : Nat)

theorem ioSetAll_withHidden (l : List (Byte × Byte)) (s : State) :
    ioSetAll l (withHidden trace stop ready enable count s) =
      withHidden trace stop ready enable count (ioSetAll l s) := by
  induction l generalizing s with
  | nil => rfl
  | cons c l ih => exact ih (ioSet c.1 c.2 s)

theorem displayWriteAll_withHidden (l : List (BitVec 13 × Byte)) (s : State) :
    displayWriteAll l (withHidden trace stop ready enable count s) =
      withHidden trace stop ready enable count (displayWriteAll l s) := by
  induction l generalizing s with
  | nil => rfl
  | cons c l ih => exact ih (displayWrite (c.1.setWidth 16) c.2 s)

theorem applyIoEffect_withHidden (o : Byte) (e : IoEffect) (s : State) :
    applyIoEffect o e (withHidden trace stop ready enable count s) =
      withHidden trace stop ready enable count (applyIoEffect o e s) := by
  simp only [applyIoEffect, ioSetAll_withHidden, displayWriteAll_withHidden]
  rfl

theorem ioRead_withHidden (o : Byte) (s : State) :
    ioRead o (withHidden trace stop ready enable count s) = ioRead o s := rfl

theorem suppliedIoWrite_withHidden (o v : Byte) (s : State) :
    suppliedIoWrite o v (withHidden trace stop ready enable count s) =
      withHidden trace stop ready enable count (suppliedIoWrite o v s) := by
  have hv : handlerView (withHidden trace stop ready enable count s) = handlerView s := rfl
  simp only [suppliedIoWrite, hv, applyIoEffect_withHidden]
  rfl

theorem ioWrite_withHidden (o v : Byte) (s : State) :
    ioWrite o v (withHidden trace stop ready enable count s) =
      withHidden trace stop ready enable count (ioWrite o v s) := by
  cases hh : s.params.ioHandler with
  | reference =>
    rw [ioWrite_reference o v hh, ioWrite_reference (s := withHidden trace stop ready enable count s) o v hh]
    rfl
  | supplied =>
    rw [ioWrite_supplied o v hh, ioWrite_supplied (s := withHidden trace stop ready enable count s) o v hh]
    exact suppliedIoWrite_withHidden trace stop ready enable count o v s

end

/-- Settles O60: each clause is the rule of the collaborator it names, or of both handlers where it names neither. -/
theorem collaboratorContracts : Obligations.CollaboratorContracts := by
  refine ⟨fun s a v h => ?_, fun s o v h => ?_, fun s a v => ⟨rfl, rfl, rfl⟩, fun s o v => ?_⟩
  · exact ⟨cartRead_supplied h a, cartWrite_supplied a v h, by simp [cartDebugWrite, h],
      by simp [cartPeriodicUpdate, h]⟩
  · rw [busRead_displayWindow, busWrite_displayWindow, displayRead_supplied h, displayWrite_supplied _ _ h,
      displayOffset_setWidth]
    exact ⟨rfl, rfl⟩
  · refine ⟨sameCore_ioWrite o v s, ⟨ioWrite_cram o v s, ioWrite_cartState o v s⟩, ?_, ?_, ⟨rfl, rfl⟩,
      ioWrite_wramBank_ne_zero o v, ioWrite_wramBank_of_not_enhanced o v, fun hh ho => ?_,
      fun ho => ioWrite_timer_of_ne ho v s, fun trace stop ready enable count =>
        ⟨ioRead_withHidden trace stop ready enable count o s,
          ioWrite_withHidden trace stop ready enable count o v s⟩⟩
    · rintro rfl
      exact ⟨ioGet_ioWrite_interrupt (o := 0x0F) rfl v s, ioRead_ioWrite_interrupt rfl v s⟩
    · rintro rfl
      exact ⟨ioGet_ioWrite_interrupt (o := 0xFF) rfl v s, ioRead_ioWrite_interrupt rfl v s⟩
    · rw [ioWrite_supplied o v hh]
      exact ⟨ioRead_supplied hh ho, suppliedIoWrite_of_not_interrupt ho v s⟩

/-! ### The cell behind an address (20_memory.md R61, R62, R65) -/

/-- The storage element a row of the map lies in. -/
def Region.store : Region → Store
  | .cartRom => .rom
  | .display => .vram
  | .cartRam => .cram
  | .wramLow | .wramBanked | .mirror => .wram
  | .oam => .oam
  | .io => .io

theorem cellOf_store (bank : BitVec 3) (a : Word) : (cellOf bank a).1 = (regionOf a).store := by
  unfold cellOf
  cases regionOf a <;> rfl

theorem wramIndex_mod (bank : BitVec 3) {a : Word} (h : regionOf a = .wramLow ∨ regionOf a = .wramBanked) :
    wramIndex bank a % 256 = a.toNat % 256 := by
  obtain h | h := h
  · obtain ⟨hlo, -⟩ : 0xC000 ≤ a.toNat ∧ a.toNat ≤ 0xCFFF := regionOf_eq_iff.1 h
    rw [wramIndex_low bank h]
    omega
  · obtain ⟨hlo, -⟩ : 0xD000 ≤ a.toNat ∧ a.toNat ≤ 0xDFFF := regionOf_eq_iff.1 h
    rw [wramIndex_banked bank h]
    omega

/-- Every row starts at a multiple of 256, so a cell's index keeps the low byte of its address. -/
theorem cellOf_index_mod (bank : BitVec 3) (a : Word) : (cellOf bank a).2 % 256 = a.toNat % 256 := by
  have hb := regionOf_bounds a
  unfold cellOf
  cases h : regionOf a <;> simp only [h, Region.first, Region.last] at hb <;> dsimp only
  case wramLow => exact wramIndex_mod bank (.inl h)
  case wramBanked => exact wramIndex_mod bank (.inr h)
  case mirror =>
    rw [wramIndex_mod bank (regionOf_unmirrored h)]
    bv_omega
  case io => simp [lo8]
  all_goals bv_omega

/-- Adjacent addresses reach different cells. -/
theorem cellOf_add_one_ne (bank : BitVec 3) (a : Word) : cellOf bank (a + 1) ≠ cellOf bank a := by
  intro h
  have hi := congrArg (fun c => c.2 % 256) h
  simp only [cellOf_index_mod] at hi
  bv_omega

/-- The address a mirror address stands for (R66); any other address stands for itself. -/
def unmirror (a : Word) : Word := if regionOf a = .mirror then a - 0x2000 else a

theorem unmirror_of_mirror {a : Word} (h : regionOf a = .mirror) : unmirror a = a - 0x2000 := if_pos h

theorem unmirror_of_ne {a : Word} (h : regionOf a ≠ .mirror) : unmirror a = a := if_neg h

theorem regionOf_unmirror_ne_mirror (a : Word) : regionOf (unmirror a) ≠ .mirror := by
  by_cases h : regionOf a = .mirror
  · rw [unmirror_of_mirror h]
    obtain h' | h' := regionOf_unmirrored h <;> rw [h'] <;> decide
  · rwa [unmirror_of_ne h]

theorem cellOf_wram (bank : BitVec 3) {a : Word} (h : regionOf a = .wramLow ∨ regionOf a = .wramBanked) :
    cellOf bank a = (.wram, wramIndex bank a) := by
  unfold cellOf
  obtain h | h := h <;> rw [h]

theorem cellOf_unmirror (bank : BitVec 3) (a : Word) : cellOf bank (unmirror a) = cellOf bank a := by
  by_cases h : regionOf a = .mirror
  · rw [unmirror_of_mirror h, cellOf_wram bank (regionOf_unmirrored h)]
    simp only [cellOf, h]
  · rw [unmirror_of_ne h]

theorem followsBank_iff {a : Word} : followsBank a = true ↔ regionOf (unmirror a) = .wramBanked := by
  have hf : followsBank a = true ↔
      0xD000 ≤ a.toNat ∧ a.toNat ≤ 0xDFFF ∨ 0xF000 ≤ a.toNat ∧ a.toNat ≤ 0xFDFF := by simp [followsBank]
  rw [hf, regionOf_eq_iff]
  by_cases h : regionOf a = .mirror
  · obtain ⟨hlo, hhi⟩ : 0xE000 ≤ a.toNat ∧ a.toNat ≤ 0xFDFF := regionOf_eq_iff.1 h
    have hs : (a - 0x2000).toNat = a.toNat - 0x2000 := by bv_omega
    rw [unmirror_of_mirror h, hs]
    simp only [Region.first, Region.last]
    omega
  · rw [unmirror_of_ne h]
    simp only [regionOf_eq_iff, Region.first, Region.last] at h ⊢
    omega

/-- Outside the two switchable windows the bank plays no part. -/
theorem cellOf_of_not_followsBank {x : Word} (h : followsBank x = false) (bank bank' : BitVec 3) :
    cellOf bank x = cellOf bank' x := by
  have hb : regionOf (unmirror x) ≠ .wramBanked := fun hb => absurd (followsBank_iff.2 hb) (by simp [h])
  have hm := regionOf_unmirror_ne_mirror x
  rw [← cellOf_unmirror bank, ← cellOf_unmirror bank']
  cases hr : regionOf (unmirror x)
  case wramBanked => exact absurd hr hb
  case mirror => exact absurd hr hm
  case wramLow =>
    rw [cellOf_wram bank (.inl hr), cellOf_wram bank' (.inl hr), wramIndex_low bank hr, wramIndex_low bank' hr]
  all_goals simp only [cellOf, hr]

/-- With a bank other than 0 the switchable windows reach no cell that an address outside them does (R35, R65). -/
theorem cellOf_ne_of_followsBank {bank : BitVec 3} (hbank : bank ≠ 0) {x y : Word} (hy : followsBank y = true)
    (hx : followsBank x = false) : cellOf bank x ≠ cellOf bank y := by
  have hry : regionOf (unmirror y) = .wramBanked := followsBank_iff.1 hy
  have hrx : regionOf (unmirror x) ≠ .wramBanked := fun h => absurd (followsBank_iff.2 h) (by simp [hx])
  have hm := regionOf_unmirror_ne_mirror x
  rw [← cellOf_unmirror bank x, ← cellOf_unmirror bank y]
  intro h
  have hstore : (regionOf (unmirror x)).store = .wram := by
    rw [← cellOf_store bank, h, cellOf_store, hry]
    rfl
  have hlow : regionOf (unmirror x) = .wramLow := by
    cases hr : regionOf (unmirror x)
    case wramLow => rfl
    case wramBanked => exact absurd hr hrx
    case mirror => exact absurd hr hm
    all_goals rw [hr] at hstore; cases hstore
  rw [cellOf_wram bank (.inl hlow), cellOf_wram bank (.inr hry), Prod.mk.injEq, wramIndex_low bank hlow,
    wramIndex_banked bank hry] at h
  obtain ⟨-, hi⟩ := regionOf_eq_iff.1 hlow
  have hb : 1 ≤ bank.toNat := by bv_omega
  simp only [Region.last] at hi
  omega

/-! ### What a bus write leaves alone (20_memory.md R63, R70, R72, R74, R78) -/

theorem inCartridge_iff {a : Word} : inCartridge a = true ↔ regionOf a = .cartRom ∨ regionOf a = .cartRam := by
  simp [inCartridge]

theorem inCartridge_eq_store (a : Word) :
    inCartridge a = decide ((regionOf a).store = .rom ∨ (regionOf a).store = .cram) := by
  unfold inCartridge
  cases regionOf a <;> rfl

theorem regionOf_eq_display_iff {a : Word} : regionOf a = .display ↔ (regionOf a).store = .vram := by
  cases regionOf a <;> decide

theorem store_eq_of_cellOf_eq {bank : BitVec 3} {x a : Word} (h : cellOf bank x = cellOf bank a) :
    (regionOf x).store = (regionOf a).store := by
  rw [← cellOf_store bank, ← cellOf_store bank, h]

theorem eq_reference_of_ne_supplied {k : Collaborator} (h : k ≠ .supplied) : k = .reference := by
  cases k
  · rfl
  · exact absurd rfl h

/-- The byte behind `x` is another than the one a write to `a` stores: a supplied I/O handler does not serve the write,
no other supplied collaborator serves both addresses, and the write moves no bank that `x` follows. -/
structure OtherByte (s : State) (a x : Word) : Prop where
  handler : regionOf a = .io → s.params.ioHandler = .reference
  cartridge : inCartridge a = true → inCartridge x = true → s.params.cartridge = .reference
  display : regionOf a = .display → regionOf x = .display → s.params.display = .reference
  cell : cellOf s.wramBank x ≠ cellOf s.wramBank a
  bank : a = 0xFF70 → followsBank x = false

/-- What `leavesAlone` allows: beside a supplied I/O handler's write the cartridge, beside any other write another
byte. -/
theorem leavesAlone_cases {s : State} {a x : Word} (h : leavesAlone s a x = true) :
    (regionOf a = .io ∧ s.params.ioHandler = .supplied ∧ inCartridge x = true) ∨ OtherByte s a x := by
  have hbank : a = 0xFF70 → regionOf a = .io := by rintro rfl; decide
  by_cases hio : regionOf a = .io ∧ s.params.ioHandler = .supplied
  · exact .inl ⟨hio.1, hio.2, by simpa [leavesAlone, hio.1, hio.2] using h⟩
  have handler : regionOf a = .io → s.params.ioHandler = .reference :=
    fun ha => eq_reference_of_ne_supplied fun hs => hio ⟨ha, hs⟩
  rw [leavesAlone, if_neg (by simpa using hio)] at h
  refine .inr ?_
  by_cases hc : inCartridge a = true ∧ s.params.cartridge = .supplied
  · obtain ⟨ha, hs⟩ := hc
    have hx : inCartridge x = false := by simpa [ha, hs] using h
    have hne : regionOf a ≠ .io ∧ regionOf a ≠ .display := by
      obtain hr | hr := inCartridge_iff.1 ha <;> simp [hr]
    exact {
      handler
      cartridge := fun _ hx' => absurd hx' (by simp [hx])
      display := fun hd => absurd hd hne.2
      cell := fun hcell => by
        rw [inCartridge_eq_store, ← store_eq_of_cellOf_eq hcell, ← inCartridge_eq_store, hx] at ha
        cases ha
      bank := fun hb => absurd (hbank hb) hne.1 }
  have cartridge : inCartridge a = true → inCartridge x = true → s.params.cartridge = .reference :=
    fun ha _ => eq_reference_of_ne_supplied fun hs => hc ⟨ha, hs⟩
  rw [if_neg (by simpa using hc)] at h
  by_cases hd : regionOf a = .display ∧ s.params.display = .supplied
  · obtain ⟨ha, hs⟩ := hd
    have hx : regionOf x ≠ .display := by simpa [ha, hs] using h
    exact {
      handler, cartridge
      display := fun _ hx' => absurd hx' hx
      cell := fun hcell =>
        hx (by rwa [regionOf_eq_display_iff, store_eq_of_cellOf_eq hcell, ← regionOf_eq_display_iff])
      bank := fun hb => absurd (hbank hb) (by simp [ha]) }
  rw [if_neg (by simpa using hd)] at h
  simp only [Bool.and_eq_true, decide_eq_true_eq, Bool.or_eq_true, Bool.not_eq_true'] at h
  exact {
    handler, cartridge
    display := fun ha _ => eq_reference_of_ne_supplied fun hs => hd ⟨ha, hs⟩
    cell := h.1.symm
    bank := fun hb => h.2.resolve_left (absurd hb) }

/-! The byte at an address, as the frame statements speak of it. -/

/-- The byte at `x` is in `t` what it is in `s`: a read answers the same, unless a supplied I/O handler computes it, and
of the I/O block the byte stored is the same. -/
structure KeepsByte (x : Word) (s t : State) : Prop where
  params : t.params = s.params
  read : computedRead s x = false → busRead x t = busRead x s
  stored : regionOf x = .io → ioGet (lo8 x) t = ioGet (lo8 x) s

theorem computedRead_congr {s t : State} (h : t.params = s.params) (x : Word) :
    computedRead t x = computedRead s x := by
  simp only [computedRead, h]

theorem KeepsByte.trans {x : Word} {s t u : State} (h : KeepsByte x s t) (h' : KeepsByte x t u) : KeepsByte x s u where
  params := h'.params.trans h.params
  read hx := (h'.read (computedRead_congr h.params x ▸ hx)).trans (h.read hx)
  stored hx := (h'.stored hx).trans (h.stored hx)

theorem busRead_inCartridge {x : Word} (h : inCartridge x = true) (s : State) : busRead x s = cartRead x s := by
  unfold busRead
  obtain h | h := inCartridge_iff.1 h <;> rw [h]

theorem busRead_display {x : Word} (h : regionOf x = .display) (s : State) :
    busRead x s = displayRead (x - 0x8000) s := by
  unfold busRead
  rw [h]

/-- An I/O handler changes nothing of the cartridge (R74). -/
theorem cartRead_ioWrite (x : Word) (o v : Byte) (s : State) : cartRead x (ioWrite o v s) = cartRead x s := by
  simp only [cartRead, ioWrite_params, ioWrite_rom, ioWrite_cram, ioWrite_cartState]

theorem busWrite_cartState {a : Word} (h : inCartridge a = false) (v : Byte) (s : State) :
    (busWrite a v s).cartState = s.cartState := by
  unfold inCartridge at h
  unfold busWrite
  cases hr : regionOf a <;> simp only [hr] at h
  case io => exact ioWrite_cartState _ _ _
  case cartRom | cartRam => cases h
  all_goals rfl

theorem busWrite_dispState {a : Word} {s : State} (hd : regionOf a ≠ .display)
    (hi : regionOf a = .io → s.params.ioHandler = .reference) (v : Byte) :
    (busWrite a v s).dispState = s.dispState := by
  unfold busWrite
  cases hr : regionOf a
  case io => rw [ioWrite_reference _ _ (hi hr)]; rfl
  case display => exact absurd hr hd
  all_goals rfl

/-- Only the bank register moves the bank, where the reference handler serves it (R78). -/
theorem busWrite_wramBank_of_ne {a : Word} {s : State} (ha : a ≠ 0xFF70)
    (hi : regionOf a = .io → s.params.ioHandler = .reference) (v : Byte) :
    (busWrite a v s).wramBank = s.wramBank := by
  unfold busWrite
  cases hr : regionOf a
  case io =>
    rw [ioWrite_reference _ _ (hi hr)]
    exact if_neg fun ho : lo8 a = 0x70 => ha (eq_of_lo8 hr ho)
  all_goals rfl

namespace OtherByte

variable {s : State} {a x : Word}

theorem cellOf_busWrite (h : OtherByte s a x) (v : Byte) :
    cellOf (busWrite a v s).wramBank x = cellOf s.wramBank x := by
  by_cases ha : a = 0xFF70
  · exact cellOf_of_not_followsBank (h.bank ha) _ _
  · rw [busWrite_wramBank_of_ne ha h.handler]

theorem cellRead_busWrite (h : OtherByte s a x) (v : Byte) :
    cellRead (cellOf s.wramBank x) (busWrite a v s) = cellRead (cellOf s.wramBank x) s := by
  refine cellRead_busWrite_ne v (fun hst => ?_) h.handler h.cell
  have hlt := cellOf_lt s.wramBank x
  rwa [hst] at hlt

theorem busRead_busWrite (h : OtherByte s a x) (v : Byte) (hx : computedRead s x = false) :
    busRead x (busWrite a v s) = busRead x s := by
  have hp : (busWrite a v s).params = s.params := busWrite_params a v s
  by_cases hc : inCartridge x = true ∧ s.params.cartridge = .supplied
  · obtain ⟨hxc, hs⟩ := hc
    have ha : inCartridge a = false := Bool.eq_false_iff.2 fun ha => by
      rw [h.cartridge ha hxc] at hs
      cases hs
    rw [busRead_inCartridge hxc, busRead_inCartridge hxc, cartRead_supplied (hp ▸ hs), cartRead_supplied hs,
      busWrite_cartState ha]
  by_cases hd : regionOf x = .display ∧ s.params.display = .supplied
  · obtain ⟨hxd, hs⟩ := hd
    have ha : regionOf a ≠ .display := fun ha => by
      rw [h.display ha hxd] at hs
      cases hs
    rw [busRead_display hxd, busRead_display hxd, displayRead_supplied (hp ▸ hs), displayRead_supplied hs,
      busWrite_dispState ha h.handler]
  have hcr : inCartridge x = true → s.params.cartridge = .reference :=
    fun hxc => eq_reference_of_ne_supplied fun hs => hc ⟨hxc, hs⟩
  have hdr : regionOf x = .display → s.params.display = .reference :=
    fun hxd => eq_reference_of_ne_supplied fun hs => hd ⟨hxd, hs⟩
  have hx' : computedRead (busWrite a v s) x = false := computedRead_congr hp x ▸ hx
  rw [busRead_eq_cellRead hcr hdr hx, busRead_eq_cellRead (hp ▸ hcr) (hp ▸ hdr) hx', h.cellOf_busWrite,
    h.cellRead_busWrite]

theorem ioGet_busWrite (h : OtherByte s a x) (v : Byte) (hx : regionOf x = .io) :
    ioGet (lo8 x) (busWrite a v s) = ioGet (lo8 x) s := by
  have hcell (t : State) : cellRead (cellOf s.wramBank x) t = ioGet (lo8 x) t := by simp [cellOf, hx, cellRead]
  have hk := h.cellRead_busWrite v
  rwa [hcell, hcell] at hk

theorem keepsByte (h : OtherByte s a x) (v : Byte) : KeepsByte x s (busWrite a v s) :=
  ⟨busWrite_params a v s, h.busRead_busWrite v, h.ioGet_busWrite v⟩

end OtherByte

theorem regionOf_ne_io_of_inCartridge {x : Word} (h : inCartridge x = true) : regionOf x ≠ .io := by
  obtain h | h := inCartridge_iff.1 h <;> rw [h] <;> decide

theorem keepsByte_ioWrite_of_inCartridge {x : Word} (h : inCartridge x = true) (o v : Byte) (s : State) :
    KeepsByte x s (ioWrite o v s) where
  params := ioWrite_params o v s
  read _ := by rw [busRead_inCartridge h, busRead_inCartridge h, cartRead_ioWrite]
  stored hx := absurd hx (regionOf_ne_io_of_inCartridge h)

/-- A byte that `leavesAlone` names stays. -/
theorem keepsByte_busWrite {s : State} {a x : Word} (h : leavesAlone s a x = true) (v : Byte) :
    KeepsByte x s (busWrite a v s) := by
  obtain ⟨ha, -, hx⟩ | h := leavesAlone_cases h
  · rw [busWrite_of_io ha]
    exact keepsByte_ioWrite_of_inCartridge hx _ v s
  · exact h.keepsByte v

theorem sameCore_busWrite (a : Word) (v : Byte) (s : State) : Claims.sameCore s (busWrite a v s) := by
  simp [Claims.sameCore]

/-- Settles O50: a supplied I/O handler leaves the cartridge alone, any other write every other cell and every other
collaborator's state. -/
theorem busWriteKeepsTheRest : Obligations.BusWriteKeepsTheRest :=
  fun s a _ v => ⟨fun h => ⟨(keepsByte_busWrite h v).read, (keepsByte_busWrite h v).stored⟩, sameCore_busWrite a v s⟩

/-! ### The memory and the collaborators alone -/

/-- The memories, the I/O block, the collaborators' own states and the settings: the registers, the interrupt control, the
count and the output trace are blanked. -/
def memoryPart (s : State) : State :=
  { s with
    a := 0, b := 0, c := 0, d := 0, e := 0, h := 0, l := 0, f := 0, sp := 0, pc := 0
    ime := false, imeDelay := .inactive, halted := false, instrCount := 0, events := [] }

/-- Only a read that a supplied I/O handler computes may depend on more than the memory part (R74). -/
theorem busRead_memoryPart {x : Word} {s : State} (h : computedRead s x = false) :
    busRead x (memoryPart s) = busRead x s := by
  by_cases hx : regionOf x = .io
  · rw [busRead_of_io hx, busRead_of_io hx]
    cases hi : isInterruptOffset (lo8 x) with
    | true => rw [ioRead_interrupt _ hi, ioRead_interrupt _ hi]; rfl
    | false =>
      have hh : s.params.ioHandler = .reference :=
        eq_reference_of_ne_supplied fun hs => by simp [computedRead, hx, hs, hi] at h
      rw [ioRead_reference hh, ioRead_reference (s := memoryPart s) hh]
      rfl
  · unfold busRead
    cases hr : regionOf x
    case io => exact absurd hr hx
    all_goals rfl

theorem keepsByte_of_memoryPart_eq {s t : State} (h : memoryPart t = memoryPart s) (x : Word) : KeepsByte x s t := by
  have hp : t.params = s.params := show (memoryPart t).params = (memoryPart s).params by rw [h]
  exact {
    params := hp
    read := fun hx => by
      rw [← busRead_memoryPart hx, ← busRead_memoryPart (computedRead_congr hp x ▸ hx), h]
    stored := fun _ => show ioGet (lo8 x) (memoryPart t) = ioGet (lo8 x) (memoryPart s) by rw [h] }

/-! ### A word pushed and popped (R82, R85) -/

theorem computedRead_eq_false_iff {s : State} {x : Word} :
    computedRead s x = false ↔
      (regionOf x = .io → s.params.ioHandler = .supplied → isInterruptOffset (lo8 x) = true) := by
  simp [computedRead]

theorem computedRead_of_plainStorage {s : State} {a : Word} (h : plainStorage s a = true) :
    computedRead s a = false := by
  refine computedRead_eq_false_iff.2 fun hr hs => ?_
  obtain ⟨hlo, -⟩ : 0xFF00 ≤ a.toNat ∧ a.toNat ≤ 0xFFFF := regionOf_eq_iff.1 hr
  obtain ⟨-, hlt | rfl | rfl | ⟨hh, -, -⟩⟩ := plainStorage_iff.1 h
  · omega
  · rfl
  · rfl
  · rw [hs] at hh
    cases hh

theorem plainStorage_congr {s t : State} (h : t.params = s.params) (a : Word) :
    plainStorage t a = plainStorage s a := by
  simp only [plainStorage, h]

theorem plainStorage_outside_cartridge_and_display {s : State} {a : Word} (h : plainStorage s a = true) :
    inCartridge a = false ∧ regionOf a ≠ .display := by
  obtain ⟨hlo, -⟩ := plainStorage_iff.1 h
  simp only [← Bool.not_eq_true, inCartridge_iff, ne_eq, regionOf_eq_iff, Region.first, Region.last]
  omega

/-- A store to plain storage leaves the plain storage one address up alone: with a supplied I/O handler neither IF nor
IE has such a neighbour. -/
theorem otherByte_of_eq_add_one {s : State} {a x : Word} (hax : x = a + 1) (ha : plainStorage s a = true)
    (hx : plainStorage s x = true) : OtherByte s a x where
  handler hr := by
    obtain ⟨hlo, -⟩ : 0xFF00 ≤ a.toNat ∧ a.toNat ≤ 0xFFFF := regionOf_eq_iff.1 hr
    obtain ⟨-, hlt | rfl | rfl | ⟨hh, -, -⟩⟩ := plainStorage_iff.1 ha
    · omega
    · obtain ⟨-, h⟩ := plainStorage_iff.1 (hax ▸ hx)
      simpa using h
    · obtain ⟨h, -⟩ := plainStorage_iff.1 (hax ▸ hx)
      simp at h
    · exact hh
  cartridge hc := absurd hc (by simp [(plainStorage_outside_cartridge_and_display ha).1])
  display hd := absurd hd (plainStorage_outside_cartridge_and_display ha).2
  cell := hax ▸ cellOf_add_one_ne s.wramBank a
  bank h := by rw [hax, h]; rfl

theorem plainStorage_busWrite (a : Word) (v : Byte) (s : State) (x : Word) :
    plainStorage (busWrite a v s) x = plainStorage s x :=
  plainStorage_congr (busWrite_params a v s) x

theorem busRead_push {x w : Word} {s : State} (hx : plainStorage s x = true) :
    busRead x (push w s) = busRead x (busWrite (s.sp - 2) (lo8 w) (busWrite (s.sp - 1) (hi8 w) s)) := by
  have hm : memoryPart (push w s) =
      memoryPart (busWrite (s.sp - 2) (lo8 w) (busWrite (s.sp - 1) (hi8 w) s)) := rfl
  refine (keepsByte_of_memoryPart_eq hm x).read (computedRead_of_plainStorage ?_)
  rwa [plainStorage_busWrite, plainStorage_busWrite]

/-! The two bytes of a pushed word: the low byte at the new `SP`, the high byte above it. -/

theorem busRead_push_low {w : Word} {s : State} (h : plainStorage s (s.sp - 2) = true) :
    busRead (s.sp - 2) (push w s) = lo8 w := by
  rw [busRead_push h]
  exact busRead_busWrite_of_plainStorage ((plainStorage_busWrite _ _ _ _).trans h) _

theorem busRead_push_high {w : Word} {s : State} (h1 : plainStorage s (s.sp - 1) = true)
    (h2 : plainStorage s (s.sp - 2) = true) : busRead (s.sp - 1) (push w s) = hi8 w := by
  have h1' : plainStorage (busWrite (s.sp - 1) (hi8 w) s) (s.sp - 1) = true := by rwa [plainStorage_busWrite]
  have h2' : plainStorage (busWrite (s.sp - 1) (hi8 w) s) (s.sp - 2) = true := by rwa [plainStorage_busWrite]
  have ho : OtherByte (busWrite (s.sp - 1) (hi8 w) s) (s.sp - 2) (s.sp - 1) :=
    otherByte_of_eq_add_one (by bv_omega) h2' h1'
  rw [busRead_push h1, ho.busRead_busWrite _ (computedRead_of_plainStorage h1'),
    busRead_busWrite_of_plainStorage h1]

theorem popped_push {w : Word} {s : State} (h1 : plainStorage s (s.sp - 1) = true)
    (h2 : plainStorage s (s.sp - 2) = true) : popped (push w s) = w := by
  have hs : (push w s).sp + 1 = s.sp - 1 := by
    show s.sp - 2 + 1 = s.sp - 1
    bv_omega
  rw [popped, busRead16, hs, busRead_push_high h1 h2]
  exact (congrArg (join (hi8 w)) (busRead_push_low h2)).trans (join_hi8_lo8 w)

/-- Settles O22: neither of the two stores touches the other's byte, and each is read back. -/
theorem popUndoesPush : Obligations.PopUndoesPush := by
  intro w s h1 h2
  have hsp : s.sp - 2 + 2 = s.sp := by bv_omega
  exact ⟨popped_push h1 h2, popped_push h1 h2, hsp⟩

/-! ### What several stores leave alone -/

/-- Beside a write that leaves `x` alone, the bank stays, or `x` does not follow it and it is not 0 afterwards. -/
theorem busWrite_wramBank_cases {s : State} {a x : Word} (h : leavesAlone s a x = true) (v : Byte) :
    (busWrite a v s).wramBank = s.wramBank ∨ (followsBank x = false ∧ (busWrite a v s).wramBank ≠ 0) := by
  by_cases hb : (busWrite a v s).wramBank = s.wramBank
  · exact .inl hb
  have hx : followsBank x = false := by
    obtain ⟨-, -, hx⟩ | h := leavesAlone_cases h
    · have hr : regionOf x ≠ .mirror ∧ regionOf x ≠ .wramBanked := by
        obtain hr | hr := inCartridge_iff.1 hx <;> simp [hr]
      exact Bool.eq_false_iff.2 fun hf => hr.2 (unmirror_of_ne hr.1 ▸ followsBank_iff.1 hf)
    · by_contra hf
      exact hb (busWrite_wramBank_of_ne (fun ha => hf (h.bank ha)) h.handler v)
  have hio : regionOf a = .io := by
    by_contra hio
    exact hb (busWrite_wramBank_of_ne (by rintro rfl; exact hio rfl) (absurd · hio) v)
  rw [busWrite_of_io hio] at hb ⊢
  obtain hb' | ⟨-, hb'⟩ := ioWrite_wramBank_cases (lo8 a) v s
  · exact absurd hb' hb
  · exact .inr ⟨hx, hb'⟩

/-- `leavesAlone` looks at the parameters and at whether the two cells differ. -/
theorem leavesAlone_of_cellOf_ne {s t : State} {b x : Word} (hp : t.params = s.params)
    (hc : cellOf s.wramBank b ≠ cellOf s.wramBank x → cellOf t.wramBank b ≠ cellOf t.wramBank x)
    (h : leavesAlone s b x = true) : leavesAlone t b x = true := by
  unfold leavesAlone at h ⊢
  rw [hp]
  split_ifs at h ⊢
  · exact h
  · exact h
  · exact h
  · simp only [Bool.and_eq_true, decide_eq_true_eq] at h ⊢
    exact ⟨hc h.1, h.2⟩

/-- What two stores both leave alone, the second still leaves alone after the first. -/
theorem leavesAlone_busWrite {s : State} {a b x : Word} (ha : leavesAlone s a x = true) (hb : leavesAlone s b x = true)
    (v : Byte) : leavesAlone (busWrite a v s) b x = true := by
  refine leavesAlone_of_cellOf_ne (busWrite_params a v s) (fun hc => ?_) hb
  obtain hbank | ⟨hx, hbank⟩ := busWrite_wramBank_cases ha v
  · rwa [hbank]
  cases hf : followsBank b with
  | true => exact (cellOf_ne_of_followsBank hbank hf hx).symm
  | false => rwa [cellOf_of_not_followsBank hf _ s.wramBank, cellOf_of_not_followsBank hx _ s.wramBank]

/-- `t` is `s` after bus writes at the addresses `as`, in order, but for the registers and the control state. -/
inductive StoresTo : List Word → State → State → Prop where
  | none {s t : State} : memoryPart t = memoryPart s → StoresTo [] s t
  | store {a : Word} {as : List Word} {v : Byte} {s t : State} :
      StoresTo as (busWrite a v s) t → StoresTo (a :: as) s t

theorem StoresTo.keepsByte {as : List Word} {s t : State} {x : Word} (h : StoresTo as s t)
    (hx : ∀ a ∈ as, leavesAlone s a x = true) : KeepsByte x s t := by
  induction h with
  | none hm => exact keepsByte_of_memoryPart_eq hm x
  | @store a as v s t _ ih =>
    obtain ⟨ha, has⟩ := List.forall_mem_cons.1 hx
    exact (keepsByte_busWrite ha v).trans (ih fun b hb => leavesAlone_busWrite ha (has b hb) v)

/-! ### Where each shared operation stores -/

/-- The address a write of an operand stores to: none for a register (10_state.md R24). -/
def operandAddrs (r : Operand8) (s : State) : List Word :=
  match r with
  | .atHL => [s.hl]
  | _ => []

section

variable {s t u : State}

/-- An operation that writes registers stores nowhere. -/
theorem storesTo_nil (h : (.next u : Result) = .next t) (hu : memoryPart u = memoryPart s) : StoresTo [] s t :=
  of_next h (.none hu)

theorem storesTo_writeR8 {r : Operand8} {v : Byte} (h : (.next u : Result) = .next t)
    (hu : memoryPart u = memoryPart (writeR8 r v s)) : StoresTo (operandAddrs r s) s t := by
  refine of_next h ?_
  cases r
  case atHL => exact .store (.none hu)
  all_goals exact .none hu

theorem storesTo_push {w : Word} (h : (.next u : Result) = .next t) (hu : memoryPart u = memoryPart (push w s)) :
    StoresTo [s.sp - 1, s.sp - 2] s t :=
  of_next h (.store (.store (.none hu)))

theorem load8_storesTo {dst src : Operand8} (h : load8 dst src s = .next t) : StoresTo (operandAddrs dst s) s t :=
  storesTo_writeR8 h rfl
theorem loadImm8_storesTo {dst : Operand8} {n : Byte} (h : loadImm8 dst n s = .next t) :
    StoresTo (operandAddrs dst s) s t :=
  storesTo_writeR8 h rfl
theorem increment8_storesTo {dst : Operand8} (h : increment8 dst s = .next t) : StoresTo (operandAddrs dst s) s t :=
  storesTo_writeR8 h rfl
theorem decrement8_storesTo {dst : Operand8} (h : decrement8 dst s = .next t) : StoresTo (operandAddrs dst s) s t :=
  storesTo_writeR8 h rfl
theorem rotateOperand_storesTo {op : RotOp} {r : Operand8} (h : rotateOperand op r s = .next t) :
    StoresTo (operandAddrs r s) s t :=
  storesTo_writeR8 h rfl
theorem resetBit_storesTo {b : Nat} {r : Operand8} (h : resetBit b r s = .next t) : StoresTo (operandAddrs r s) s t :=
  storesTo_writeR8 h rfl
theorem setBit_storesTo {b : Nat} {r : Operand8} (h : setBit b r s = .next t) : StoresTo (operandAddrs r s) s t :=
  storesTo_writeR8 h rfl
theorem storeA_storesTo {length : Nat} {addr : Word} (h : storeA length addr s = .next t) : StoresTo [addr] s t :=
  of_next h (.store (.none rfl))
theorem storeAStep_storesTo {delta : Word} (h : storeAStep delta s = .next t) : StoresTo [s.hl] s t :=
  of_next h (.store (.none rfl))
theorem storeSP_storesTo {nn : Word} (h : storeSP nn s = .next t) : StoresTo [nn, nn + 1] s t :=
  of_next h (.store (.store (.none rfl)))
theorem pushRegister_storesTo {p : PairAF} (h : pushRegister p s = .next t) : StoresTo [s.sp - 1, s.sp - 2] s t :=
  storesTo_push h rfl
theorem restart_storesTo {k : Nat} (h : restart k s = .next t) : StoresTo [s.sp - 1, s.sp - 2] s t :=
  storesTo_push h rfl
theorem call_storesTo {taken : Bool} {nn : Word} (h : call taken nn s = .next t) :
    StoresTo (if taken then [s.sp - 1, s.sp - 2] else []) s t := by
  cases taken
  · exact storesTo_nil h rfl
  · exact storesTo_push h rfl
theorem ret_storesTo {taken : Bool} (h : ret taken s = .next t) : StoresTo [] s t := by
  cases taken <;> exact storesTo_nil h rfl
theorem aluOperand_storesTo {op : AluOp} {r : Operand8} (h : aluOperand op r s = .next t) : StoresTo [] s t := by
  cases op <;> exact storesTo_nil h rfl
theorem testBit_storesTo {b : Nat} {r : Operand8} (h : testBit b r s = .next t) : StoresTo [] s t := storesTo_nil h rfl
theorem popRegister_storesTo {p : PairAF} (h : popRegister p s = .next t) : StoresTo [] s t := by
  cases p <;> exact storesTo_nil h rfl
theorem reti_storesTo (h : execReti s = .next t) : StoresTo [] s t := storesTo_nil h rfl
theorem unknownOpcode_storesTo {opcode : Byte} (h : unknownOpcode opcode s = .next t) : StoresTo [] s t :=
  storesTo_nil h rfl

end

/-- `storeAddrs` names the stores of every instruction. -/
theorem exec_storesTo {i : Instr} {s t : State} (h : exec i s = .next t) : StoresTo (storeAddrs i s) s t := by
  cases i
  case ldAtBCA | ldAtDEA | ldhAtNA | ldAtCA | ldAtNnA => exact (storeA_storesTo h :)
  case ldAtHLIncA | ldAtHLDecA => exact (storeAStep_storesTo h :)
  case ldAtNnSP => exact (storeSP_storesTo h :)
  case ldBN | ldCN | ldDN | ldEN | ldHN | ldLN | ldAtHLN | ldAN => exact (loadImm8_storesTo h :)
  case ldBB | ldBC | ldBD | ldBE | ldBH | ldBL | ldBAtHL | ldBA | ldCB | ldCC | ldCD | ldCE | ldCH | ldCL |
      ldCAtHL | ldCA | ldDB | ldDC | ldDD | ldDE | ldDH | ldDL | ldDAtHL | ldDA | ldEB | ldEC | ldED | ldEE | ldEH |
      ldEL | ldEAtHL | ldEA | ldHB | ldHC | ldHD | ldHE | ldHH | ldHL | ldHAtHL | ldHA | ldLB | ldLC | ldLD | ldLE |
      ldLH | ldLL | ldLAtHL | ldLA | ldAtHLB | ldAtHLC | ldAtHLD | ldAtHLE | ldAtHLH | ldAtHLL | ldAtHLA | ldAB |
      ldAC | ldAD | ldAE | ldAH | ldAL | ldAAtHL | ldAA =>
    exact (load8_storesTo h :)
  case res0B | res0C | res0D | res0E | res0H | res0L | res0AtHL | res0A | res1B | res1C | res1D | res1E | res1H |
      res1L | res1AtHL | res1A | res2B | res2C | res2D | res2E | res2H | res2L | res2AtHL | res2A | res3B | res3C |
      res3D | res3E | res3H | res3L | res3AtHL | res3A | res4B | res4C | res4D | res4E | res4H | res4L | res4AtHL |
      res4A | res5B | res5C | res5D | res5E | res5H | res5L | res5AtHL | res5A | res6B | res6C | res6D | res6E |
      res6H | res6L | res6AtHL | res6A | res7B | res7C | res7D | res7E | res7H | res7L | res7AtHL | res7A =>
    exact (resetBit_storesTo h :)
  case set0B | set0C | set0D | set0E | set0H | set0L | set0AtHL | set0A | set1B | set1C | set1D | set1E | set1H |
      set1L | set1AtHL | set1A | set2B | set2C | set2D | set2E | set2H | set2L | set2AtHL | set2A | set3B | set3C |
      set3D | set3E | set3H | set3L | set3AtHL | set3A | set4B | set4C | set4D | set4E | set4H | set4L | set4AtHL |
      set4A | set5B | set5C | set5D | set5E | set5H | set5L | set5AtHL | set5A | set6B | set6C | set6D | set6E |
      set6H | set6L | set6AtHL | set6A | set7B | set7C | set7D | set7E | set7H | set7L | set7AtHL | set7A =>
    exact (setBit_storesTo h :)
  case incB | incC | incD | incE | incH | incL | incAtHL | incA => exact (increment8_storesTo h :)
  case decB | decC | decD | decE | decH | decL | decAtHL | decA => exact (decrement8_storesTo h :)
  case addAB | addAC | addAD | addAE | addAH | addAL | addAAtHL | addAA | adcAB | adcAC | adcAD | adcAE | adcAH |
      adcAL | adcAAtHL | adcAA | subB | subC | subD | subE | subH | subL | subAtHL | subA | sbcAB | sbcAC | sbcAD |
      sbcAE | sbcAH | sbcAL | sbcAAtHL | sbcAA | andB | andC | andD | andE | andH | andL | andAtHL | andA | xorB |
      xorC | xorD | xorE | xorH | xorL | xorAtHL | xorA | orB | orC | orD | orE | orH | orL | orAtHL | orA | cpB |
      cpC | cpD | cpE | cpH | cpL | cpAtHL | cpA =>
    exact (aluOperand_storesTo h :)
  case rlcB | rlcC | rlcD | rlcE | rlcH | rlcL | rlcAtHL | rlcA | rrcB | rrcC | rrcD | rrcE | rrcH | rrcL |
      rrcAtHL | rrcA | rlB | rlC | rlD | rlE | rlH | rlL | rlAtHL | rlA | rrB | rrC | rrD | rrE | rrH | rrL |
      rrAtHL | rrA | slaB | slaC | slaD | slaE | slaH | slaL | slaAtHL | slaA | sraB | sraC | sraD | sraE | sraH |
      sraL | sraAtHL | sraA | swapB | swapC | swapD | swapE | swapH | swapL | swapAtHL | swapA | srlB | srlC |
      srlD | srlE | srlH | srlL | srlAtHL | srlA =>
    exact (rotateOperand_storesTo h :)
  case bit0B | bit0C | bit0D | bit0E | bit0H | bit0L | bit0AtHL | bit0A | bit1B | bit1C | bit1D | bit1E | bit1H |
      bit1L | bit1AtHL | bit1A | bit2B | bit2C | bit2D | bit2E | bit2H | bit2L | bit2AtHL | bit2A | bit3B | bit3C |
      bit3D | bit3E | bit3H | bit3L | bit3AtHL | bit3A | bit4B | bit4C | bit4D | bit4E | bit4H | bit4L | bit4AtHL |
      bit4A | bit5B | bit5C | bit5D | bit5E | bit5H | bit5L | bit5AtHL | bit5A | bit6B | bit6C | bit6D | bit6E |
      bit6H | bit6L | bit6AtHL | bit6A | bit7B | bit7C | bit7D | bit7E | bit7H | bit7L | bit7AtHL | bit7A =>
    exact (testBit_storesTo h :)
  case pushBC | pushDE | pushHL | pushAF => exact (pushRegister_storesTo h :)
  case callNZNn | callZNn | callNn | callNCNn | callCNn => exact (call_storesTo h :)
  case rst00 | rst08 | rst10 | rst18 | rst20 | rst28 | rst30 | rst38 => exact (restart_storesTo h :)
  case retNZ | retZ | ret | retNC | retC => exact (ret_storesTo h :)
  case reti => exact (reti_storesTo h :)
  case popBC | popDE | popHL | popAF => exact (popRegister_storesTo h :)
  case unknownD3 | unknownDB | unknownDD | unknownE3 | unknownE4 | unknownEB | unknownEC | unknownED | unknownF4 |
      unknownFC | unknownFD =>
    exact (unknownOpcode_storesTo h :)
  all_goals exact storesTo_nil h rfl

/-- Settles O40: an instruction's stores are those at `storeAddrs`, each leaves the byte alone, and the rest of its
meaning writes registers and control state only. -/
theorem instructionsKeepOtherMemory : Obligations.InstructionsKeepOtherMemory := by
  intro i s t x h hx
  have hk : KeepsByte x s t := (exec_storesTo h).keepsByte hx
  exact ⟨hk.read, hk.stored⟩

end Sys2Proof.Machine

namespace Sys2Proof

/-! ### The fields of an opcode byte (30_encoding.md R105, R115) -/

section

variable (x : BitVec 2) (y z : BitVec 3)

theorem opcode_x : (x ++ y ++ z : Byte).extractLsb' 6 2 = x :=
  (BitVec.extractLsb'_append_eq_of_le (by decide)).trans BitVec.extractLsb'_append_eq_left

theorem opcode_y : (x ++ y ++ z : Byte).extractLsb' 3 3 = y :=
  (BitVec.extractLsb'_append_eq_of_le (by decide)).trans BitVec.extractLsb'_append_eq_right

theorem opcode_z : (x ++ y ++ z : Byte).extractLsb' 0 3 = z := BitVec.extractLsb'_append_eq_right

end

theorem exists_opcode_fields (b : Byte) : ∃ (x : BitVec 2) (y z : BitVec 3), b = x ++ y ++ z := by
  refine ⟨b.extractLsb' 6 2, b.extractLsb' 3 3, b.extractLsb' 0 3, ?_⟩
  have hxy : b.extractLsb' 6 2 ++ b.extractLsb' 3 3 = b.extractLsb' 3 5 :=
    BitVec.extractLsb'_append_extractLsb'_eq_extractLsb' rfl
  rw [hxy]
  exact (BitVec.extractLsb'_append_extractLsb' (w := 5) (len := 3)).symm

/-! What the decoder reads in each quadrant of the opcode map, and in each group of the CB space (R106 to R110). -/

section

variable (y z : BitVec 3) (b1 b2 : Byte)

theorem decode_quadrant0 : decode (0b00#2 ++ y ++ z) b1 b2 = quadrant0 y z b1 b2 := by
  simp only [decode, opcode_x, opcode_y, opcode_z]; rfl

theorem decode_quadrant1 :
    decode (0b01#2 ++ y ++ z) b1 b2 = ldBlock (Operand8.ofBits y) (Operand8.ofBits z) := by
  simp only [decode, opcode_x, opcode_y, opcode_z]; rfl

theorem decode_quadrant2 :
    decode (0b10#2 ++ y ++ z) b1 b2 = aluBlock (AluOp.ofBits y) (Operand8.ofBits z) := by
  simp only [decode, opcode_x, opcode_y, opcode_z]; rfl

theorem decode_quadrant3 : decode (0b11#2 ++ y ++ z) b1 b2 = quadrant3 y z b1 b2 := by
  simp only [decode, opcode_x, opcode_y, opcode_z]; rfl

theorem cbSpace_rotBlock : cbSpace (0b00#2 ++ y ++ z) = rotBlock (RotOp.ofBits y) (Operand8.ofBits z) := by
  simp only [cbSpace, opcode_x, opcode_y, opcode_z]; rfl

theorem cbSpace_bitBlock : cbSpace (0b01#2 ++ y ++ z) = bitBlock y (Operand8.ofBits z) := by
  simp only [cbSpace, opcode_x, opcode_y, opcode_z]; rfl

theorem cbSpace_resBlock : cbSpace (0b10#2 ++ y ++ z) = resBlock y (Operand8.ofBits z) := by
  simp only [cbSpace, opcode_x, opcode_y, opcode_z]; rfl

theorem cbSpace_setBlock : cbSpace (0b11#2 ++ y ++ z) = setBlock y (Operand8.ofBits z) := by
  simp only [cbSpace, opcode_x, opcode_y, opcode_z]; rfl

end

theorem bitVec2_cases (p : BitVec 2) : p = 0 ∨ p = 1 ∨ p = 2 ∨ p = 3 := by
  revert p; decide

theorem bitVec3_cases (y : BitVec 3) : y = 0 ∨ y = 1 ∨ y = 2 ∨ y = 3 ∨ y = 4 ∨ y = 5 ∨ y = 6 ∨ y = 7 := by
  revert y; decide

/-- Settles O9: the quadrants 1 and 2 and the CB space are the blocks, and the immediate forms are the row `z = 6` of
quadrant 3. -/
theorem blocksDecodeByFields : Obligations.BlocksDecodeByFields := by
  intro y z b1 b2
  exact ⟨decode_quadrant1 y z b1 b2, rfl, decode_quadrant2 y z b1 b2, decode_quadrant3 y 6 b1 b2,
    cbSpace_rotBlock y z, cbSpace_bitBlock y z, cbSpace_resBlock y z, cbSpace_setBlock y z⟩

/-- Settles O10: a field of three bits is `y`, whatever it holds; a field of two bits is read for each of its four
values. -/
theorem fieldOpcodesDecode : Obligations.FieldOpcodesDecode := by
  intro y p b1 b2
  have hy : _ ∧ _ ∧ _ := ⟨decode_quadrant0 y 4 b1 b2, decode_quadrant0 y 5 b1 b2, decode_quadrant0 y 6 b1 b2⟩
  have hrst := decode_quadrant3 y 7 b1 b2
  obtain rfl | rfl | rfl | rfl := bitVec2_cases p
  all_goals exact ⟨hy, ⟨rfl, rfl, rfl, rfl⟩, ⟨rfl, rfl, rfl, rfl⟩, rfl, rfl, hrst⟩

/-! ### Encoding what is decoded (30_encoding.md R100 to R104, R112) -/

/-- Whatever bytes follow the opcode `b0`, they decode to a well-formed instruction whose encoding is the first of the
three bytes, as many as `b0` says. -/
def EncodesBack (b0 : Byte) : Prop :=
  ∀ b1 b2, WellFormed (decode b0 b1 b2) = true ∧ 1 ≤ opcodeLength b0 ∧ opcodeLength b0 ≤ 3 ∧
    encode (decode b0 b1 b2) = [b0, b1, b2].take (opcodeLength b0)

namespace EncodesBack

variable {b0 : Byte}

/-- The length follows from the encoding with two zero bytes. -/
theorem of_take {n : Nat} (h1 : 1 ≤ n) (h3 : n ≤ 3)
    (h : ∀ b1 b2, WellFormed (decode b0 b1 b2) = true ∧ encode (decode b0 b1 b2) = [b0, b1, b2].take n) :
    EncodesBack b0 := by
  have hn : opcodeLength b0 = n := by
    rw [opcodeLength, (h 0 0).2]
    exact List.length_take_of_le h3
  intro b1 b2
  obtain ⟨hw, he⟩ := h b1 b2
  exact ⟨hw, hn.symm ▸ h1, hn.symm ▸ h3, hn.symm ▸ he⟩

/-! One rule for each form of an instruction. At a concrete opcode its hypothesis holds by computing the tables. -/

/-- An opcode without an immediate. -/
theorem of_opcode (h : ∀ b1 b2, WellFormed (decode b0 b1 b2) = true ∧ encode (decode b0 b1 b2) = [b0] := by
    exact fun _ _ => ⟨rfl, rfl⟩) : EncodesBack b0 :=
  of_take (n := 1) (by decide) (by decide) h

/-- R102: an opcode with a byte, which may be the sub-opcode of the CB space. -/
theorem of_byte (h : ∀ b1 b2, WellFormed (decode b0 b1 b2) = true ∧ encode (decode b0 b1 b2) = [b0, b1] := by
    exact fun _ _ => ⟨rfl, rfl⟩) : EncodesBack b0 :=
  of_take (n := 2) (by decide) (by decide) h

/-- R103: an opcode with a signed offset. -/
theorem of_offset (h : ∀ b1 b2, WellFormed (decode b0 b1 b2) = offsetFits (signedOffset b1) ∧
    encode (decode b0 b1 b2) = [b0, offsetByte (signedOffset b1)] := by exact fun _ _ => ⟨rfl, rfl⟩) :
    EncodesBack b0 := by
  refine of_byte fun b1 b2 => ?_
  obtain ⟨hw, he⟩ := h b1 b2
  rw [hw, he, offsetByte_signedOffset]
  exact ⟨offsetFits_signedOffset b1, rfl⟩

/-- R104: an opcode with a word, low byte first. -/
theorem of_word (h : ∀ b1 b2, WellFormed (decode b0 b1 b2) = true ∧
    encode (decode b0 b1 b2) = [b0, lo8 (join b2 b1), hi8 (join b2 b1)] := by exact fun _ _ => ⟨rfl, rfl⟩) :
    EncodesBack b0 := by
  refine of_take (n := 3) (by decide) (by decide) fun b1 b2 => ?_
  obtain ⟨hw, he⟩ := h b1 b2
  rw [he, lo8_join, hi8_join]
  exact ⟨hw, rfl⟩

end EncodesBack

theorem encode_ldBlock (y z : BitVec 3) :
    WellFormed (ldBlock (Operand8.ofBits y) (Operand8.ofBits z)) = true ∧
      encode (ldBlock (Operand8.ofBits y) (Operand8.ofBits z)) = [0b01#2 ++ y ++ z] := by
  revert y z; decide

theorem encode_aluBlock (y z : BitVec 3) :
    WellFormed (aluBlock (AluOp.ofBits y) (Operand8.ofBits z)) = true ∧
      encode (aluBlock (AluOp.ofBits y) (Operand8.ofBits z)) = [0b10#2 ++ y ++ z] := by
  revert y z; decide

/-- R108: group by group, the sub-opcode is written as it was read. -/
theorem encode_cbSpace (s : Byte) : WellFormed (cbSpace s) = true ∧ encode (cbSpace s) = [0xCB, s] := by
  obtain ⟨x, y, z, rfl⟩ := exists_opcode_fields s
  obtain rfl | rfl | rfl | rfl := bitVec2_cases x
  all_goals revert y z; decide

theorem encodesBack_quadrant1 (y z : BitVec 3) : EncodesBack (0b01#2 ++ y ++ z) :=
  .of_opcode fun b1 b2 => (decode_quadrant1 y z b1 b2).symm ▸ encode_ldBlock y z

theorem encodesBack_quadrant2 (y z : BitVec 3) : EncodesBack (0b10#2 ++ y ++ z) :=
  .of_opcode fun b1 b2 => (decode_quadrant2 y z b1 b2).symm ▸ encode_aluBlock y z

/-! The other two quadrants, by rows: a row holds the eight opcodes of one `z`, in the order of `y`, and each rule named
in it is the form of its instruction (R109, R110). -/

theorem encodesBack_row {x : BitVec 2} {z : BitVec 3}
    (h0 : EncodesBack (x ++ 0#3 ++ z)) (h1 : EncodesBack (x ++ 1#3 ++ z)) (h2 : EncodesBack (x ++ 2#3 ++ z))
    (h3 : EncodesBack (x ++ 3#3 ++ z)) (h4 : EncodesBack (x ++ 4#3 ++ z)) (h5 : EncodesBack (x ++ 5#3 ++ z))
    (h6 : EncodesBack (x ++ 6#3 ++ z)) (h7 : EncodesBack (x ++ 7#3 ++ z)) (y : BitVec 3) :
    EncodesBack (x ++ y ++ z) := by
  obtain rfl | rfl | rfl | rfl | rfl | rfl | rfl | rfl := bitVec3_cases y <;> assumption

theorem encodesBack_quadrant0 (y z : BitVec 3) : EncodesBack (0b00#2 ++ y ++ z) := by
  obtain rfl | rfl | rfl | rfl | rfl | rfl | rfl | rfl := bitVec3_cases z
  · exact encodesBack_row .of_opcode .of_word .of_byte .of_offset .of_offset .of_offset .of_offset .of_offset y
  · exact encodesBack_row .of_word .of_opcode .of_word .of_opcode .of_word .of_opcode .of_word .of_opcode y
  · apply encodesBack_row <;> exact .of_opcode
  · apply encodesBack_row <;> exact .of_opcode
  · apply encodesBack_row <;> exact .of_opcode
  · apply encodesBack_row <;> exact .of_opcode
  · apply encodesBack_row <;> exact .of_byte
  · apply encodesBack_row <;> exact .of_opcode

/-- R108: after the opcode byte 0xCB the second byte is the sub-opcode. -/
theorem encodesBack_cbOpcode : EncodesBack (0b11#2 ++ 1#3 ++ 3#3) :=
  .of_byte fun b1 _ => encode_cbSpace b1

theorem encodesBack_quadrant3 (y z : BitVec 3) : EncodesBack (0b11#2 ++ y ++ z) := by
  obtain rfl | rfl | rfl | rfl | rfl | rfl | rfl | rfl := bitVec3_cases z
  · exact encodesBack_row .of_opcode .of_opcode .of_opcode .of_opcode .of_byte .of_offset .of_byte .of_offset y
  · apply encodesBack_row <;> exact .of_opcode
  · exact encodesBack_row .of_word .of_word .of_word .of_word .of_opcode .of_word .of_opcode .of_word y
  · exact encodesBack_row .of_word encodesBack_cbOpcode .of_opcode .of_opcode .of_opcode .of_opcode .of_opcode
      .of_opcode y
  · exact encodesBack_row .of_word .of_word .of_word .of_word .of_opcode .of_opcode .of_opcode .of_opcode y
  · exact encodesBack_row .of_opcode .of_word .of_opcode .of_opcode .of_opcode .of_opcode .of_opcode .of_opcode y
  · apply encodesBack_row <;> exact .of_byte
  · apply encodesBack_row <;> exact .of_opcode

theorem encodesBack (b0 : Byte) : EncodesBack b0 := by
  obtain ⟨x, y, z, rfl⟩ := exists_opcode_fields b0
  obtain rfl | rfl | rfl | rfl := bitVec2_cases x
  · exact encodesBack_quadrant0 y z
  · exact encodesBack_quadrant1 y z
  · exact encodesBack_quadrant2 y z
  · exact encodesBack_quadrant3 y z

/-- Settles O7: every opcode byte is in one of the four quadrants, and in each the encoder reads the decoder's table
back. -/
theorem encodeOfDecode : Obligations.EncodeOfDecode :=
  encodesBack

/-- R100: the length of an instruction is a function of its opcode byte alone. -/
theorem opcodeLength_eq_length_encode (b0 b1 b2 : Byte) : opcodeLength b0 = (encode (decode b0 b1 b2)).length := by
  obtain ⟨-, -, h3, he⟩ := encodesBack b0 b1 b2
  rw [he]
  exact (List.length_take_of_le h3).symm

/-! ### Decoding what is encoded (30_encoding.md R100 to R104, R115) -/

/-- If the bytes of `i`, with any others after them, read as `i`, they decode to `i` and leave the others over. -/
theorem decodeBytes_encode_append {b0 : Byte} {bs : List Byte} {i : Instr} (he : encode i = b0 :: bs)
    (hd : ∀ rest, decode b0 ((bs ++ rest).getD 0 0) ((bs ++ rest).getD 1 0) = i) (rest : List Byte) :
    decodeBytes (encode i ++ rest) = .ok (i, rest) := by
  have hl : opcodeLength b0 = bs.length + 1 := by
    rw [opcodeLength_eq_length_encode b0 ((bs ++ rest).getD 0 0) ((bs ++ rest).getD 1 0), hd, he, List.length_cons]
  have hlen : ¬ (bs ++ rest).length + 1 < opcodeLength b0 := by
    rw [hl, List.length_append]
    omega
  have hdrop : (b0 :: (bs ++ rest)).drop (opcodeLength b0) = rest := by
    rw [hl]
    exact List.drop_left
  rw [he, List.cons_append, decodeBytes, if_neg hlen, hd, hdrop]

/-- An instruction of one byte, or of two with the second as it stands: an immediate byte (R102) or a sub-opcode
(R108). -/
theorem decodeBytes_encode_of_byte {b0 : Byte} {bs : List Byte} {i : Instr} (he : encode i = b0 :: bs)
    (hd : ∀ b1 b2, decode b0 (bs.headD b1) b2 = i) (rest : List Byte) :
    decodeBytes (encode i ++ rest) = .ok (i, rest) := by
  have hb (rest : List Byte) : (bs ++ rest).getD 0 0 = bs.headD (rest.getD 0 0) := by cases bs <;> rfl
  exact decodeBytes_encode_append he (fun rest => by rw [hb, hd]) rest

/-- R103: an instruction with a signed offset, which fits its byte. -/
theorem decodeBytes_encode_of_offset {b0 : Byte} {f : Int → Instr} {e : Int} (hfit : offsetFits e = true)
    (he : encode (f e) = [b0, offsetByte e]) (hd : ∀ b1 b2, decode b0 b1 b2 = f (signedOffset b1))
    (rest : List Byte) : decodeBytes (encode (f e) ++ rest) = .ok (f e, rest) :=
  decodeBytes_encode_append he (fun _ => (hd _ _).trans (congrArg f (signedOffset_offsetByte hfit))) rest

/-- R104: an instruction with a word, low byte first. -/
theorem decodeBytes_encode_of_word {b0 : Byte} {f : Word → Instr} {nn : Word}
    (he : encode (f nn) = [b0, lo8 nn, hi8 nn]) (hd : ∀ b1 b2, decode b0 b1 b2 = f (join b2 b1)) (rest : List Byte) :
    decodeBytes (encode (f nn) ++ rest) = .ok (f nn, rest) :=
  decodeBytes_encode_append he (fun _ => (hd _ _).trans (congrArg f (join_hi8_lo8 nn))) rest

/-- Instruction by instruction the decoder's table reads the encoder's bytes. -/
theorem decodeBytes_encode {i : Instr} (h : WellFormed i = true) (rest : List Byte) :
    decodeBytes (encode i ++ rest) = .ok (i, rest) := by
  cases i
  case jrE | jrNZE | jrZE | jrNCE | jrCE | addSPE | ldHLSPE =>
    exact decodeBytes_encode_of_offset h rfl (fun _ _ => rfl) rest
  case ldBCNn | ldAtNnSP | ldDENn | ldHLNn | ldSPNn | jpNZNn | jpNn | callNZNn | jpZNn | callZNn | callNn | jpNCNn |
      callNCNn | jpCNn | callCNn | ldAtNnA | ldAAtNn =>
    exact decodeBytes_encode_of_word rfl (fun _ _ => rfl) rest
  all_goals exact decodeBytes_encode_of_byte rfl (fun _ _ => by dsimp only [List.headD]; rfl) rest

/-- Settles O6: the decoder reads each instruction's bytes by the row of the table they were written from, and the
length it takes is the encoding's. -/
theorem decodeOfEncode : Obligations.DecodeOfEncode :=
  fun _ rest h => decodeBytes_encode h rest

end Sys2Proof

namespace Sys2Proof.Machine

/-! ### The phases of a step in order (60_exceptions.md R301, R302) -/

theorem release_of_not_frameHold {s : State} (h : s.frameHold = false) : release s = s := by
  unfold release
  rw [← h]

theorem held_of_not_frameHold {s : State} (h : s.frameHold = false) : held s = false := by
  rw [held, h, Bool.false_and]

/-- R101: the fetched instruction is the decoding of the bytes at `PC`, `PC + 1` and `PC + 2`. -/
theorem fetchInstr_eq (s : State) :
    fetchInstr s = decode (busRead s.pc s) (busRead (s.pc + 1) s) (busRead (s.pc + 2) s) := by
  simp [fetchInstr, fetchByte]

/-- Settles O12: a core that is not held dispatches the instruction it fetches, and the phases after the dispatch are
the four named, the last phase doing nothing. -/
theorem stepRunsTheFetchedInstruction : Obligations.StepRunsTheFetchedInstruction := by
  rintro s t i hrun hfree rfl ht
  rw [← fetchInstr_eq] at ht
  refine step_of_dispatch (held_of_not_frameHold hfree) ?_
  rw [release_of_not_frameHold hfree, dispatchPhase_of_running hrun, ht]

/-! ### The write of a storage cell -/

/-- `s` with `v` in the storage cell `c`: what `cellRead` reads back. -/
def cellWrite (c : Store × Nat) (v : Byte) (s : State) : State :=
  match c.1 with
  | .wram => { s with wram := memSet s.wram c.2 v }
  | .oam => { s with oam := memSet s.oam c.2 v }
  | .io => ioSet (BitVec.ofNat 8 c.2) v s
  | .rom => { s with rom := memSet s.rom c.2 v }
  | .cram => { s with cram := memSet s.cram c.2 v }
  | .vram => { s with vram := memSet s.vram c.2 v }

@[simp] theorem cellWrite_params (c : Store × Nat) (v : Byte) (s : State) : (cellWrite c v s).params = s.params := by
  unfold cellWrite
  cases c.1 <;> rfl

@[simp] theorem cellWrite_wramBank (c : Store × Nat) (v : Byte) (s : State) :
    (cellWrite c v s).wramBank = s.wramBank := by
  unfold cellWrite
  cases c.1 <;> rfl

@[simp] theorem cellWrite_pc (c : Store × Nat) (v : Byte) (s : State) : (cellWrite c v s).pc = s.pc := by
  unfold cellWrite
  cases c.1 <;> rfl

@[simp] theorem cellRead_cellWrite_same (c : Store × Nat) (v : Byte) (s : State) :
    cellRead c (cellWrite c v s) = v := by
  obtain ⟨st, k⟩ := c
  cases st
  case io => exact ioGet_ioSet_same _ v s
  all_goals exact readCell_memSet_same _ _ k v

theorem cellRead_cellWrite_ne {c d : Store × Nat} (hc : c.2 < storeSize c.1) (hd : d.2 < storeSize d.1) (h : c ≠ d)
    (v : Byte) (s : State) : cellRead c (cellWrite d v s) = cellRead c s := by
  obtain ⟨st, k⟩ := c
  obtain ⟨su, j⟩ := d
  cases st <;> cases su
  case io.io =>
    refine ioGet_ioSet_ne v s fun hkj => h (congrArg (Prod.mk _) ?_)
    calc
      k = k % 256 := (Nat.mod_eq_of_lt hc).symm
      _ = j % 256 := congrArg BitVec.toNat hkj
      _ = j := Nat.mod_eq_of_lt hd
  case wram.wram | oam.oam | rom.rom | cram.cram | vram.vram =>
    exact readCell_memSet_ne _ _ v fun hkj => h (congrArg (Prod.mk _) hkj)
  all_goals rfl

/-! ### Bytes placed where they are fetched (30_encoding.md R101, 20_memory.md R89) -/

theorem cartStore_inRom {a : Word} (h : a ≤ 0x7FFF) (v : Byte) (s : State) :
    cartStore a v s = { s with rom := memSet s.rom a.toNat v } := by
  simp only [cartStore, if_pos h]

theorem cartStore_inRam {a : Word} (h : ¬ a ≤ 0x7FFF) (v : Byte) (s : State) :
    cartStore a v s = { s with cram := memSet s.cram (a - 0xA000).toNat v } := by
  simp only [cartStore, if_neg h]

/-- A poke writes the cell its address reaches, after the collaborator that serves the address, if one does, is made the
reference one. -/
theorem poke_eq_cellWrite (a : Word) (v : Byte) (s : State) :
    poke a v s = cellWrite (cellOf s.wramBank a) v (useReference (regionOf a) s) := by
  unfold poke rawStore cellOf cellWrite
  cases h : regionOf a
  case cartRom => exact cartStore_inRom (regionOf_cartRom h) v _
  case cartRam => exact cartStore_inRam (regionOf_cartRam h) v _
  case io => simp
  all_goals rfl

@[simp] theorem poke_wramBank (a : Word) (v : Byte) (s : State) : (poke a v s).wramBank = s.wramBank := by
  simp [poke_eq_cellWrite]

@[simp] theorem poke_pc (a : Word) (v : Byte) (s : State) : (poke a v s).pc = s.pc := by
  simp [poke_eq_cellWrite]

theorem poke_params (a : Word) (v : Byte) (s : State) : (poke a v s).params = (useReference (regionOf a) s).params := by
  simp [poke_eq_cellWrite]

theorem cellRead_useReference (c : Store × Nat) (r : Region) (s : State) :
    cellRead c (useReference r s) = cellRead c s := by
  unfold cellRead
  cases c.1 <;> rfl

theorem cellRead_poke_same (a : Word) (v : Byte) (s : State) : cellRead (cellOf s.wramBank a) (poke a v s) = v := by
  simp [poke_eq_cellWrite]

theorem cellRead_poke_ne {a x : Word} {s : State} (h : cellOf s.wramBank x ≠ cellOf s.wramBank a) (v : Byte) :
    cellRead (cellOf s.wramBank x) (poke a v s) = cellRead (cellOf s.wramBank x) s := by
  rw [poke_eq_cellWrite, cellRead_cellWrite_ne (cellOf_lt _ _) (cellOf_lt _ _) h, cellRead_useReference]

/-- The byte at `x` is `b`, stored: the collaborator that serves `x`, if one does, is the reference one, and the cell
behind `x` holds `b`. -/
structure Holds (x : Word) (b : Byte) (s : State) : Prop where
  cartridge : inCartridge x = true → s.params.cartridge = .reference
  display : regionOf x = .display → s.params.display = .reference
  ioHandler : regionOf x = .io → s.params.ioHandler = .reference
  cell : cellRead (cellOf s.wramBank x) s = b

theorem Holds.busRead {x : Word} {b : Byte} {s : State} (h : Holds x b s) : busRead x s = b := by
  rw [busRead_eq_cellRead h.cartridge h.display, h.cell]
  refine computedRead_eq_false_iff.2 fun hr hs => ?_
  rw [h.ioHandler hr] at hs
  cases hs

theorem holds_poke_same (a : Word) (v : Byte) (s : State) : Holds a v (poke a v s) where
  cartridge h := by rw [poke_params]; exact if_pos (inCartridge_iff.1 h)
  display h := by rw [poke_params]; exact if_pos h
  ioHandler h := by rw [poke_params]; exact if_pos h
  cell := by rw [poke_wramBank, cellRead_poke_same]

/-- A poke at an address of another low byte leaves the byte, and makes no collaborator a supplied one. -/
theorem Holds.poke {x : Word} {b : Byte} {s : State} (h : Holds x b s) {a : Word} (v : Byte)
    (ha : x.toNat % 256 ≠ a.toNat % 256) : Holds x b (poke a v s) where
  cartridge hx := by rw [poke_params]; exact ite_eq_left_iff.2 fun _ => h.cartridge hx
  display hx := by rw [poke_params]; exact ite_eq_left_iff.2 fun _ => h.display hx
  ioHandler hx := by rw [poke_params]; exact ite_eq_left_iff.2 fun _ => h.ioHandler hx
  cell := by
    have hc : cellOf s.wramBank x ≠ cellOf s.wramBank a := fun hc => ha (by
      rw [← cellOf_index_mod s.wramBank x, hc, cellOf_index_mod])
    rw [poke_wramBank, cellRead_poke_ne hc, h.cell]

/-- The halt and the frame wait are no part of any memory. -/
theorem Holds.unheld {x : Word} {b : Byte} {s : State} (h : Holds x b s) :
    Holds x b { s with halted := false, frameHold := false } :=
  ⟨h.cartridge, h.display, h.ioHandler, h.cell⟩

theorem placeFetch_pc (b0 b1 b2 : Byte) (s : State) : (placeFetch b0 b1 b2 s).pc = s.pc := by
  simp [placeFetch]

/-- Settles O14: the three addresses differ in their low bytes, so no poke disturbs the byte of another. -/
theorem placedBytesAreFetched : Obligations.PlacedBytesAreFetched := by
  intro b0 b1 b2 s
  have h0 : Holds s.pc b0 (placeFetch b0 b1 b2 s) :=
    (((holds_poke_same s.pc b0 s).poke b1 (by bv_omega)).poke b2 (by bv_omega)).unheld
  have h1 : Holds (s.pc + 1) b1 (placeFetch b0 b1 b2 s) :=
    ((holds_poke_same (s.pc + 1) b1 _).poke b2 (by bv_omega)).unheld
  have h2 : Holds (s.pc + 2) b2 (placeFetch b0 b1 b2 s) := (holds_poke_same (s.pc + 2) b2 _).unheld
  rw [fetchInstr_eq, placeFetch_pc, h0.busRead, h1.busRead, h2.busRead]

end Sys2Proof.Machine

namespace Sys2Proof.Machine

section

open Claims

/-! ### 8-bit loads (40_load8.md R130 to R149)

What each shared operation answers, as the statements write it; then the instructions by the operation each is. -/

/-- The program counter moves past the instruction from where it stood before the operation. -/
theorem next_advance {n : Nat} {s t : State} (h : t.pc = s.pc) :
    (.next (advance n t) : Result) = .next { t with pc := s.pc + BitVec.ofNat 16 n } := by
  rw [advance, h]

theorem load8_eq (dst src : Operand8) (s : State) :
    load8 dst src s = .next { writeR8 dst (readR8 src s) s with pc := s.pc + 1 } :=
  next_advance (writeR8_pc dst _ s)

theorem loadImm8_eq (dst : Operand8) (n : Byte) (s : State) :
    loadImm8 dst n s = .next { writeR8 dst n s with pc := s.pc + 2 } :=
  next_advance (writeR8_pc dst n s)

theorem storeA_eq (length : Nat) (addr : Word) (s : State) :
    storeA length addr s = .next { busWrite addr s.a s with pc := s.pc + BitVec.ofNat 16 length } :=
  next_advance (busWrite_pc addr s.a s)

theorem loadA_eq (length : Nat) (addr : Word) (s : State) :
    loadA length addr s = .next { s with a := busRead addr s, pc := s.pc + BitVec.ofNat 16 length } := rfl

theorem storeAStep_eq (delta : Word) (s : State) :
    storeAStep delta s = .next { setHL (s.hl + delta) (busWrite s.hl s.a s) with pc := s.pc + 1 } :=
  next_advance (busWrite_pc s.hl s.a s)

theorem loadAStep_eq (delta : Word) (s : State) :
    loadAStep delta s = .next { setHL (s.hl + delta) s with a := busRead s.hl s, pc := s.pc + 1 } := rfl

theorem highPage_eq_add (n : Byte) : highPage n = 0xFF00 + n.setWidth 16 := by
  revert n; decide

/-- The code of an operand is read back as the operand (10_state.md R24). -/
@[simp] theorem ofBits_code (r : Operand8) : Operand8.ofBits (code r) = r := by
  cases r <;> rfl

/-- R130 to R132: each form of the register block but HALT is the load between its two operands. -/
theorem exec_ldBlock {dst src : Operand8} (h : ¬ (dst = .atHL ∧ src = .atHL)) (s : State) :
    exec (ldBlock dst src) s = load8 dst src s := by
  cases dst
  case atHL =>
    cases src
    case atHL => exact absurd ⟨rfl, rfl⟩ h
    all_goals rfl
  all_goals cases src <;> rfl

/-- R133, R134: each immediate form is the load of its operand. -/
theorem exec_ldImm (dst : Operand8) (n : Byte) (s : State) : exec (ldImm dst n) s = loadImm8 dst n s := by
  cases dst <;> rfl

theorem encode_ldImm (dst : Operand8) (n : Byte) : encode (ldImm dst n) = [0b00#2 ++ code dst ++ 6#3, n] := by
  cases dst <;> rfl

/-- Settles O15: the encoding of the block is the one its decoding is written back to, and all 63 forms are one
operation. -/
theorem loadBlock : Obligations.LoadBlock := by
  intro dst r s h
  obtain ⟨-, he⟩ := encode_ldBlock (code dst) (code r)
  rw [ofBits_code, ofBits_code] at he
  exact ⟨he, (exec_ldBlock h s).trans (load8_eq dst r s)⟩

/-- Settles O16: all eight forms are one operation. -/
theorem loadImmediate : Obligations.LoadImmediate := fun dst n s =>
  ⟨encode_ldImm dst n, (exec_ldImm dst n s).trans (loadImm8_eq dst n s)⟩

/-- Settles O17: each store is `storeA` and each load `loadA`, at its address; the high page is the addresses from
0xFF00 on. -/
theorem loadAccumulator : Obligations.LoadAccumulator := by
  intro s n nn
  rw [← highPage_eq_add n, ← highPage_eq_add s.c]
  exact ⟨⟨⟨rfl, storeA_eq 1 s.bc s⟩, ⟨rfl, storeA_eq 1 s.de s⟩, ⟨rfl, storeA_eq 3 nn s⟩,
      ⟨rfl, storeA_eq 2 (highPage n) s⟩, ⟨rfl, storeA_eq 1 (highPage s.c) s⟩⟩,
    ⟨rfl, loadA_eq 1 s.bc s⟩, ⟨rfl, loadA_eq 1 s.de s⟩, ⟨rfl, loadA_eq 3 nn s⟩,
      ⟨rfl, loadA_eq 2 (highPage n) s⟩, ⟨rfl, loadA_eq 1 (highPage s.c) s⟩⟩

/-- Settles O18: each is the access at the old `HL` and the step of `HL` by 1 or by -1. -/
theorem loadAndStepHL : Obligations.LoadAndStepHL := by
  intro s
  rw [sub_eq_add_neg]
  exact ⟨⟨rfl, storeAStep_eq 1 s⟩, ⟨rfl, loadAStep_eq 1 s⟩, ⟨rfl, storeAStep_eq (-1) s⟩, ⟨rfl, loadAStep_eq (-1) s⟩⟩

end

end Sys2Proof.Machine

namespace Sys2Proof.Machine

section

open Claims

/-! ### 16-bit loads (41_load16_stack.md R160 to R162) -/

theorem loadPairImm_eq (p : Pair) (nn : Word) (s : State) :
    loadPairImm p nn s = .next { writePair p nn s with pc := s.pc + 3 } :=
  next_advance (writePair_pc p nn s)

/-- R161, R81: the low byte is stored first, and the high byte at the next address. -/
theorem storeSP_eq (nn : Word) (s : State) :
    storeSP nn s =
      .next { busWrite (nn + 1) (highByte s.sp) (busWrite nn (lowByte s.sp) s) with pc := s.pc + 3 } :=
  next_advance ((busWrite_pc (nn + 1) _ _).trans (busWrite_pc nn _ s))

theorem loadSPFromHL_eq (s : State) : loadSPFromHL s = .next { s with sp := s.h ++ s.l, pc := s.pc + 1 } := rfl

/-- R160: each form is the load of its pair. -/
theorem exec_ldPairImm (p : Pair) (nn : Word) (s : State) : exec (ldPairImm p nn) s = loadPairImm p nn s := by
  cases p <;> rfl

theorem encode_ldPairImm (p : Pair) (nn : Word) :
    encode (ldPairImm p nn) = [0b00#2 ++ pairCode p ++ 0b0001#4, lowByte nn, highByte nn] := by
  cases p <;> rfl

theorem runs_ldPairImm (p : Pair) (nn : Word) (s : State) :
    Runs (ldPairImm p nn) [0b00#2 ++ pairCode p ++ 0b0001#4, lowByte nn, highByte nn] s
      { writePair p nn s with pc := s.pc + 3 } :=
  ⟨encode_ldPairImm p nn, (exec_ldPairImm p nn s).trans (loadPairImm_eq p nn s)⟩

/-- Settles O19: the four immediate loads are one operation, each of its own pair; the store of `SP` is two bus writes,
neither of which moves the program counter. -/
theorem loadPair : Obligations.LoadPair := fun s nn =>
  ⟨runs_ldPairImm .bc nn s, runs_ldPairImm .de nn s, runs_ldPairImm .hl nn s, runs_ldPairImm .sp nn s,
    ⟨rfl, storeSP_eq nn s⟩, rfl, loadSPFromHL_eq s⟩

end

end Sys2Proof.Machine

namespace Sys2Proof.Machine

section

open Claims

/-! ### 8-bit arithmetic and logic (42_alu8.md R180 to R200)

The flags and the results as the statements write them; then the instructions by the operation each is. -/

theorem packFlags_eq_flagByte (z n h c : Bool) : packFlags z n h c = flagByte z n h c := by
  revert z n h c; decide

theorem setFlags_eq (z n h c : Option Bool) (s : State) :
    setFlags z n h c s =
      { s with f := flagByte (z.getD (flagZ s)) (n.getD (flagN s)) (h.getD (flagH s)) (c.getD (flagC s)) } := by
  rw [← packFlags_eq_flagByte]; rfl

theorem bitNat_eq_toNat (b : Bool) : bitNat b = b.toNat := by cases b <;> rfl

theorem ofNat_toNat_eq_bitByte (b : Bool) : BitVec.ofNat 8 b.toNat = bitByte b := by cases b <;> rfl

/-- R181: the sum of unbounded integers is the bit-vector sum, and its carries are the carries into bits 4 and 8. -/
theorem add8_eq (a v : Byte) (cin : Bool) :
    add8 a v cin =
      { res := a + v + bitByte cin
        z := decide (a + v + bitByte cin = 0)
        h := BitVec.carry 4 a v cin
        c := BitVec.carry 8 a v cin } := by
  have hres : BitVec.ofNat 8 (a.toNat + v.toNat + cin.toNat) = a + v + bitByte cin := by
    simp only [BitVec.ofNat_add, BitVec.ofNat_toNat, BitVec.setWidth_eq, ofNat_toNat_eq_bitByte]
  have hcarry : BitVec.carry 8 a v cin = decide (a.toNat + v.toNat + cin.toNat > 0xFF) := by
    rw [BitVec.carry, Nat.mod_eq_of_lt a.isLt, Nat.mod_eq_of_lt v.isLt]; rfl
  simp only [add8, bitNat_eq_toNat, hres, hcarry]; rfl

/-- R182: the difference of unbounded integers is the bit-vector difference. -/
theorem sub8_eq (a v : Byte) (cin : Bool) :
    sub8 a v cin =
      { res := a - v - bitByte cin
        z := decide (a - v - bitByte cin = 0)
        h := decide (a.toNat % 16 < v.toNat % 16 + cin.toNat)
        c := decide (a.toNat < v.toNat + cin.toNat) } := by
  have hres : BitVec.ofInt 8 ((a.toNat : Int) - v.toNat - cin.toNat) = a - v - bitByte cin := by
    simp only [sub_eq_add_neg, BitVec.ofInt_add, BitVec.ofInt_neg, BitVec.ofInt_natCast, BitVec.ofNat_toNat,
      BitVec.setWidth_eq, ofNat_toNat_eq_bitByte]
  simp only [sub8, bitNat_eq_toNat, hres]; rfl

section

variable (v : Byte) (s : State)

theorem arithFlags_add8 (cin : Bool) :
    arithFlags (add8 s.a v cin) false { s with a := (add8 s.a v cin).res } = added v cin s := by
  rw [arithFlags, setFlags_eq, add8_eq]; rfl

theorem arithFlags_sub8 (cin : Bool) :
    arithFlags (sub8 s.a v cin) true { s with a := (sub8 s.a v cin).res } = subtracted v cin s := by
  rw [arithFlags, setFlags_eq, sub8_eq]; rfl

theorem aluApply_add : aluApply .add v s = added v false s := arithFlags_add8 v s false

theorem aluApply_adc : aluApply .adc v s = added v (flagC s) s := arithFlags_add8 v s (flagC s)

theorem aluApply_sub : aluApply .sub v s = subtracted v false s := arithFlags_sub8 v s false

theorem aluApply_sbc : aluApply .sbc v s = subtracted v (flagC s) s := arithFlags_sub8 v s (flagC s)

theorem aluApply_cp : aluApply .cp v s = { s with f := subtractFlags v false s } := by
  rw [aluApply, arithFlags, setFlags_eq, sub8_eq]; rfl

theorem aluApply_and : aluApply .and v s = logical (s.a &&& v) true s := setFlags_eq _ _ _ _ _

theorem aluApply_xor : aluApply .xor v s = logical (s.a ^^^ v) false s := setFlags_eq _ _ _ _ _

theorem aluApply_or : aluApply .or v s = logical (s.a ||| v) false s := setFlags_eq _ _ _ _ _

end

theorem aluApply_pc (op : AluOp) (v : Byte) (s : State) : (aluApply op v s).pc = s.pc := by cases op <;> rfl

theorem exec_aluBlock (op : AluOp) (r : Operand8) (s : State) : exec (aluBlock op r) s = aluOperand op r s := by
  cases op <;> cases r <;> rfl

theorem exec_aluImm (op : AluOp) (n : Byte) (s : State) : exec (aluImm op n) s = aluImmediate op n s := by
  cases op <;> rfl

theorem encode_aluImm (o : BitVec 3) (n : Byte) : encode (aluImm (AluOp.ofBits o) n) = [0b11#2 ++ o ++ 6#3, n] := by
  obtain rfl | rfl | rfl | rfl | rfl | rfl | rfl | rfl := bitVec3_cases o
  all_goals rfl

/-- R107, R180: all nine forms of an operation are `aluApply` of it, on the operand's value or on `n`. -/
theorem aluForms_of_aluApply (o : BitVec 3) {f : Byte → State → State}
    (h : ∀ v s, aluApply (AluOp.ofBits o) v s = f v s) : AluForms (AluOp.ofBits o) o f := by
  obtain rfl : aluApply (AluOp.ofBits o) = f := funext₂ h
  intro s
  constructor
  · intro r
    obtain ⟨-, he⟩ := encode_aluBlock o (code r)
    rw [ofBits_code] at he
    exact ⟨he, (exec_aluBlock _ r s).trans (next_advance (aluApply_pc _ _ s))⟩
  · intro n
    exact ⟨encode_aluImm o n, (exec_aluImm _ n s).trans (next_advance (aluApply_pc _ _ s))⟩

/-- Settles O23: both are the sum `add8`, with and without the carry coming in. -/
theorem addWithAndWithoutCarry : Obligations.AddWithAndWithoutCarry :=
  ⟨aluForms_of_aluApply 0 aluApply_add, aluForms_of_aluApply 1 aluApply_adc⟩

/-- Settles O24: all three are the difference `sub8`; CP keeps its flags only. -/
theorem subtractAndCompare : Obligations.SubtractAndCompare :=
  ⟨aluForms_of_aluApply 2 aluApply_sub, aluForms_of_aluApply 3 aluApply_sbc, aluForms_of_aluApply 7 aluApply_cp⟩

/-- Settles O25: all three are `logicResult`, of their bitwise result. -/
theorem logicalOperations : Obligations.LogicalOperations :=
  ⟨aluForms_of_aluApply 4 aluApply_and, aluForms_of_aluApply 5 aluApply_xor, aluForms_of_aluApply 6 aluApply_or⟩

/-! INC and DEC (R193 to R196), on a register and on `(HL)` alike. -/

theorem lowNibble_eq_toNat_iff (v : Byte) (n : BitVec 4) : lowNibble v = n.toNat ↔ v.extractLsb' 0 4 = n := by
  simp [lowNibble, ← BitVec.toNat_inj]

/-- The flags of INC and DEC are written after the operand: the carry they keep is the one from before it. -/
theorem next_setFlags_writeR8 (r : Operand8) (v : Byte) (z n h : Bool) (s : State) :
    (.next (advance 1 (setFlags (some z) (some n) (some h) none (writeR8 r v s))) : Result) =
      .next { writeR8 r v s with f := flagByte z n h (flagC s), pc := s.pc + 1 } := by
  have hc : flagC (writeR8 r v s) = flagC s := congrArg (·.getLsbD 4) (writeR8_f r v s)
  rw [setFlags_eq, hc]
  exact next_advance (writeR8_pc r v s)

theorem increment8_eq (r : Operand8) (s : State) :
    increment8 r s =
      .next { writeR8 r (readR8 r s + 1) s with
        f := flagByte (decide (readR8 r s = 0xFF)) false (decide ((readR8 r s).extractLsb' 0 4 = 0xF#4)) (flagC s)
        pc := s.pc + 1 } := by
  have hz : readR8 r s + 1 = 0 ↔ readR8 r s = 0xFF := by bv_omega
  have hh : lowNibble (readR8 r s) = 0x0F ↔ (readR8 r s).extractLsb' 0 4 = 0xF#4 := lowNibble_eq_toNat_iff _ 0xF#4
  rw [← decide_eq_decide.mpr hz, ← decide_eq_decide.mpr hh]
  exact next_setFlags_writeR8 r _ _ _ _ s

theorem decrement8_eq (r : Operand8) (s : State) :
    decrement8 r s =
      .next { writeR8 r (readR8 r s - 1) s with
        f := flagByte (decide (readR8 r s = 0x01)) true (decide ((readR8 r s).extractLsb' 0 4 = 0x0#4)) (flagC s)
        pc := s.pc + 1 } := by
  have hz : readR8 r s - 1 = 0 ↔ readR8 r s = 0x01 := sub_eq_zero
  have hh : lowNibble (readR8 r s) = 0x00 ↔ (readR8 r s).extractLsb' 0 4 = 0x0#4 := lowNibble_eq_toNat_iff _ 0x0#4
  rw [← decide_eq_decide.mpr hz, ← decide_eq_decide.mpr hh]
  exact next_setFlags_writeR8 r _ _ _ _ s

theorem exec_incBlock (r : Operand8) (s : State) : exec (incBlock r) s = increment8 r s := by cases r <;> rfl

theorem exec_decBlock (r : Operand8) (s : State) : exec (decBlock r) s = decrement8 r s := by cases r <;> rfl

theorem encode_incBlock (r : Operand8) : encode (incBlock r) = [0b00#2 ++ code r ++ 4#3] := by cases r <;> rfl

theorem encode_decBlock (r : Operand8) : encode (decBlock r) = [0b00#2 ++ code r ++ 5#3] := by cases r <;> rfl

/-- Settles O26: the eight forms of each are one operation. -/
theorem incrementDecrement8 : Obligations.IncrementDecrement8 := fun r s =>
  ⟨⟨encode_incBlock r, (exec_incBlock r s).trans (increment8_eq r s)⟩,
    encode_decBlock r, (exec_decBlock r s).trans (decrement8_eq r s)⟩

/-! CPL, SCF and CCF (R198 to R200). -/

theorem complementA_eq (s : State) :
    complementA s = .next { s with a := ~~~ s.a, f := flagByte (flagZ s) true true (flagC s), pc := s.pc + 1 } := by
  have ha : s.a ^^^ 0xFF = ~~~ s.a := BitVec.xor_allOnes
  rw [complementA, ha, setFlags_eq]; rfl

theorem setCarry_eq (s : State) :
    setCarry s = .next { s with f := flagByte (flagZ s) false false true, pc := s.pc + 1 } := by
  rw [setCarry, setFlags_eq]; rfl

theorem complementCarry_eq (s : State) :
    complementCarry s = .next { s with f := flagByte (flagZ s) false false (!flagC s), pc := s.pc + 1 } := by
  rw [complementCarry, setFlags_eq]; rfl

/-- Settles O28: each is one operation, which writes all it changes at once. -/
theorem complementAndCarry : Obligations.ComplementAndCarry := fun s =>
  ⟨⟨rfl, complementA_eq s⟩, ⟨rfl, setCarry_eq s⟩, rfl, complementCarry_eq s⟩

end

end Sys2Proof.Machine

namespace Sys2Proof.Machine

section

open Claims

/-! ### 16-bit arithmetic (43_alu16.md R210 to R212) -/

/-- R210 line 1: the carry out of bit 11 is the carry into bit 12. -/
theorem half16_eq_carry (x w : Word) : half16 x w = BitVec.carry 12 x w false := rfl

/-- R210 line 2: the carry out of bit 15 is the carry into bit 16. -/
theorem carry16_eq_carry (x w : Word) : carry16 x w = BitVec.carry 16 x w false := by
  rw [BitVec.carry, Nat.mod_eq_of_lt x.isLt, Nat.mod_eq_of_lt w.isLt]; rfl

/-- The flags of ADD HL are written after `HL`: the `Z` they keep is the one from before it, and the pair added is read
before it, `HL` itself included. -/
theorem addHL_eq (p : Pair) (s : State) :
    addHL p s =
      .next { setHL (s.hl + readPair p s) s with
        f := flagByte (flagZ s) false (BitVec.carry 12 s.hl (readPair p s) false)
          (BitVec.carry 16 s.hl (readPair p s) false)
        pc := s.pc + 1 } := by
  rw [← half16_eq_carry, ← carry16_eq_carry, addHL, setFlags_eq]; rfl

theorem increment16_eq (p : Pair) (s : State) :
    increment16 p s = .next { writePair p (readPair p s + 1) s with pc := s.pc + 1 } :=
  next_advance (writePair_pc p _ s)

theorem decrement16_eq (p : Pair) (s : State) :
    decrement16 p s = .next { writePair p (readPair p s - 1) s with pc := s.pc + 1 } :=
  next_advance (writePair_pc p _ s)

theorem exec_addHLPair (p : Pair) (s : State) : exec (addHLPair p) s = addHL p s := by cases p <;> rfl

theorem exec_incPair (p : Pair) (s : State) : exec (incPair p) s = increment16 p s := by cases p <;> rfl

theorem exec_decPair (p : Pair) (s : State) : exec (decPair p) s = decrement16 p s := by cases p <;> rfl

theorem encode_addHLPair (p : Pair) : encode (addHLPair p) = [0b00#2 ++ pairCode p ++ 0b1001#4] := by cases p <;> rfl

theorem encode_incPair (p : Pair) : encode (incPair p) = [0b00#2 ++ pairCode p ++ 0b0011#4] := by cases p <;> rfl

theorem encode_decPair (p : Pair) : encode (decPair p) = [0b00#2 ++ pairCode p ++ 0b1011#4] := by cases p <;> rfl

/-- Settles O29: the four forms of each are one operation, of their own pair; the carries out of bits 11 and 15 are those
into bits 12 and 16. -/
theorem pairArithmetic : Obligations.PairArithmetic := fun p s =>
  ⟨⟨encode_addHLPair p, (exec_addHLPair p s).trans (addHL_eq p s)⟩,
    ⟨encode_incPair p, (exec_incPair p s).trans (increment16_eq p s)⟩,
    encode_decPair p, (exec_decPair p s).trans (decrement16_eq p s)⟩

end

end Sys2Proof.Machine

namespace Sys2Proof.Machine

section

open Claims

/-! ### Rotates, shifts and SWAP (44_rotate_shift_bit.md R220 to R231)

The bytes the model joins from two shifts, as the statements write them; then the instructions by the operation each
is. -/

section

variable (old : Byte) (b : Bool)

theorem shiftLeftIn_eq_append : shiftLeftIn old b = old.extractLsb' 0 7 ++ BitVec.ofBool b := by
  have hold : old <<< 1 = old.extractLsb' 0 7 ++ 0#1 := BitVec.shiftLeft_eq_concat_of_lt (by decide)
  have hin : (if b then 0x01 else 0 : Byte) = 0#7 ++ BitVec.ofBool b := by cases b <;> rfl
  rw [shiftLeftIn, hold, hin, BitVec.or_append, BitVec.or_zero, BitVec.zero_or]

theorem shiftRightIn_eq_append : shiftRightIn old b = BitVec.ofBool b ++ old.extractLsb' 1 7 := by
  have hold : old >>> 1 = 0#1 ++ old.extractLsb' 1 7 := BitVec.ushiftRight_eq_extractLsb'_of_lt (by decide)
  have hin : (if b then 0x80 else 0 : Byte) = BitVec.ofBool b ++ 0#7 := by cases b <;> rfl
  rw [shiftRightIn, hold, hin, BitVec.or_append, BitVec.or_zero, BitVec.zero_or]

theorem shiftLeftIn_false : shiftLeftIn old false = old <<< 1 := BitVec.or_zero

theorem shiftRightIn_false : shiftRightIn old false = old >>> 1 := BitVec.or_zero

/-- The bit that leaves at one end of a rotate comes in at the other. -/
theorem shiftLeftIn_bit7 : shiftLeftIn old (old.getLsbD 7) = old.rotateLeft 1 := by
  rw [shiftLeftIn_eq_append]
  refine BitVec.eq_of_getLsbD_eq fun i hi => ?_
  rw [BitVec.getLsbD_append, BitVec.getLsbD_rotateLeft]
  cases i with
  | zero => simp
  | succ i => simp [hi, Nat.lt_of_succ_lt_succ hi]

theorem shiftRightIn_bit0 : shiftRightIn old (old.getLsbD 0) = old.rotateRight 1 := by
  rw [shiftRightIn_eq_append]
  refine BitVec.eq_of_getLsbD_eq fun i hi => ?_
  rw [BitVec.getLsbD_append, BitVec.getLsbD_rotateRight]
  obtain hlt | rfl := Nat.lt_succ_iff_lt_or_eq.mp hi
  · simp [hlt]
  · simp

/-- The arithmetic shift keeps the sign bit. -/
theorem shiftRightIn_bit7 : shiftRightIn old (old.getLsbD 7) = old.sshiftRight 1 := by
  rw [shiftRightIn_eq_append]
  refine BitVec.eq_of_getLsbD_eq fun i hi => ?_
  rw [BitVec.getLsbD_append, BitVec.getLsbD_sshiftRight, BitVec.msb_eq_getLsbD_last]
  obtain hlt | rfl := Nat.lt_succ_iff_lt_or_eq.mp hi
  · have h8 : 1 + i < 8 := by omega
    simp [hlt, h8, hi]
  · simp

/-! R220 to R231: what each rotate and shift answers. -/

theorem rotLeftCircular_eq : rotLeftCircular old = ⟨old.rotateLeft 1, old.getLsbD 7⟩ := by
  rw [rotLeftCircular, shiftLeftIn_bit7]

theorem rotRightCircular_eq : rotRightCircular old = ⟨old.rotateRight 1, old.getLsbD 0⟩ := by
  rw [rotRightCircular, shiftRightIn_bit0]

theorem rotLeftCarry_eq : rotLeftCarry old b = ⟨old.extractLsb' 0 7 ++ BitVec.ofBool b, old.getLsbD 7⟩ := by
  rw [rotLeftCarry, shiftLeftIn_eq_append]

theorem rotRightCarry_eq : rotRightCarry old b = ⟨BitVec.ofBool b ++ old.extractLsb' 1 7, old.getLsbD 0⟩ := by
  rw [rotRightCarry, shiftRightIn_eq_append]

theorem shiftLeftArith_eq : shiftLeftArith old = ⟨old <<< 1, old.getLsbD 7⟩ := by
  rw [shiftLeftArith, shiftLeftIn_false]

theorem shiftRightArith_eq : shiftRightArith old = ⟨old.sshiftRight 1, old.getLsbD 0⟩ := by
  rw [shiftRightArith, shiftRightIn_bit7]

theorem swapNibbles_eq : swapNibbles old = ⟨old.extractLsb' 0 4 ++ old.extractLsb' 4 4, false⟩ := by
  have hlow : old <<< 4 = old.extractLsb' 0 4 ++ 0#4 := BitVec.shiftLeft_eq_concat_of_lt (by decide)
  have hhigh : old >>> 4 = 0#4 ++ old.extractLsb' 4 4 := BitVec.ushiftRight_eq_extractLsb'_of_lt (by decide)
  rw [swapNibbles, hlow, hhigh, BitVec.or_append, BitVec.or_zero, BitVec.zero_or]

theorem shiftRightLogical_eq : shiftRightLogical old = ⟨old >>> 1, old.getLsbD 0⟩ := by
  rw [shiftRightLogical, shiftRightIn_false]

end

theorem rotateA_mk_eq (new : Byte) (c : Bool) (s : State) :
    rotateA ⟨new, c⟩ s = .next { s with a := new, f := flagByte false false false c, pc := s.pc + 1 } := by
  rw [rotateA, setFlags_eq]; rfl

/-- R220 to R223: an accumulator rotate, from the byte and the carry of its rotated byte. -/
theorem rotatesA_of_rotateA {i : Instr} {opcode new : Byte} {c : Bool} {rotated : Shifted} {s : State}
    (h : rotated = ⟨new, c⟩) (he : encode i = [opcode]) (hx : exec i s = rotateA rotated s) :
    RotatesA i opcode new c s := by
  subst h
  exact ⟨he, hx.trans (rotateA_mk_eq new c s)⟩

/-- Settles O30: each is `rotateA` of its rotated byte. -/
theorem rotateAccumulator : Obligations.RotateAccumulator := fun s =>
  ⟨rotatesA_of_rotateA (rotLeftCircular_eq s.a) rfl rfl, rotatesA_of_rotateA (rotRightCircular_eq s.a) rfl rfl,
    rotatesA_of_rotateA (rotLeftCarry_eq s.a (flagC s)) rfl rfl,
    rotatesA_of_rotateA (rotRightCarry_eq s.a (flagC s)) rfl rfl⟩

/-- The flags are written after the operand: the carry a rotate takes in is the one from before it. -/
theorem rotateOperand_eq {op : RotOp} {r : Operand8} {s : State} {new : Byte} {c : Bool}
    (h : rotateOf op (readR8 r s) s.cf = ⟨new, c⟩) :
    rotateOperand op r s =
      .next { writeR8 r new s with f := flagByte (decide (new = 0)) false false c, pc := s.pc + 2 } := by
  rw [rotateOperand, h, setFlags_eq]
  exact next_advance (writeR8_pc r new s)

/-- R108: each form of CB group 0 is the rotate or shift of its operand. -/
theorem exec_rotBlock (op : RotOp) (r : Operand8) (s : State) : exec (rotBlock op r) s = rotateOperand op r s := by
  cases op <;> cases r <;> rfl

section

variable (o : BitVec 3) (r : Operand8)

/-! The encoding of each CB group, as its decoding is written back to it (30_encoding.md R108). -/

theorem encode_rotBlock : encode (rotBlock (RotOp.ofBits o) r) = [0xCB, 0b00#2 ++ o ++ code r] := by
  rw [← ofBits_code r, ← cbSpace_rotBlock, (encode_cbSpace _).2, ofBits_code]

theorem encode_bitBlock : encode (bitBlock o r) = [0xCB, 0b01#2 ++ o ++ code r] := by
  rw [← ofBits_code r, ← cbSpace_bitBlock, (encode_cbSpace _).2, ofBits_code]

theorem encode_resBlock : encode (resBlock o r) = [0xCB, 0b10#2 ++ o ++ code r] := by
  rw [← ofBits_code r, ← cbSpace_resBlock, (encode_cbSpace _).2, ofBits_code]

theorem encode_setBlock : encode (setBlock o r) = [0xCB, 0b11#2 ++ o ++ code r] := by
  rw [← ofBits_code r, ← cbSpace_setBlock, (encode_cbSpace _).2, ofBits_code]

end

/-- R224 to R231: a variant as the statement writes the byte and the carry it leaves. -/
theorem rotateForms_of_rotateOf (o : BitVec 3) {r : Operand8} {s : State} {new : Byte} {c : Bool}
    (h : rotateOf (RotOp.ofBits o) (readR8 r s) (flagC s) = ⟨new, c⟩) : RotateForms (RotOp.ofBits o) o r new c s :=
  ⟨encode_rotBlock o r, (exec_rotBlock _ r s).trans (rotateOperand_eq h)⟩

/-- Settles O31: the eight forms of a variant are `rotateOf` of it. -/
theorem rotateAndShift : Obligations.RotateAndShift := fun _ _ =>
  ⟨rotateForms_of_rotateOf 0 (rotLeftCircular_eq _), rotateForms_of_rotateOf 1 (rotRightCircular_eq _),
    rotateForms_of_rotateOf 2 (rotLeftCarry_eq _ _), rotateForms_of_rotateOf 3 (rotRightCarry_eq _ _),
    rotateForms_of_rotateOf 4 (shiftLeftArith_eq _), rotateForms_of_rotateOf 5 (shiftRightArith_eq _),
    rotateForms_of_rotateOf 6 (swapNibbles_eq _), rotateForms_of_rotateOf 7 (shiftRightLogical_eq _)⟩

/-! ### Bit test, reset and set (44_rotate_shift_bit.md R232 to R234) -/

theorem testBit_eq (b : Nat) (r : Operand8) (s : State) :
    testBit b r s =
      .next { s with f := flagByte (!(readR8 r s).getLsbD b) false true (flagC s), pc := s.pc + 2 } := by
  rw [testBit, setFlags_eq]; rfl

theorem resetBit_eq (b : Nat) (r : Operand8) (s : State) :
    resetBit b r s = .next { writeR8 r (readR8 r s &&& ~~~ BitVec.twoPow 8 b) s with pc := s.pc + 2 } :=
  next_advance (writeR8_pc r _ s)

theorem setBit_eq (b : Nat) (r : Operand8) (s : State) :
    setBit b r s = .next { writeR8 r (readR8 r s ||| BitVec.twoPow 8 b) s with pc := s.pc + 2 } :=
  next_advance (writeR8_pc r _ s)

section

variable (b : BitVec 3) (r : Operand8) (s : State)

/-! R108: each form of the CB groups 1 to 3 is the operation of its bit, on its operand. -/

theorem exec_bitBlock : exec (bitBlock b r) s = testBit b.toNat r s := by
  obtain rfl | rfl | rfl | rfl | rfl | rfl | rfl | rfl := bitVec3_cases b
  all_goals cases r <;> rfl

theorem exec_resBlock : exec (resBlock b r) s = resetBit b.toNat r s := by
  obtain rfl | rfl | rfl | rfl | rfl | rfl | rfl | rfl := bitVec3_cases b
  all_goals cases r <;> rfl

theorem exec_setBlock : exec (setBlock b r) s = setBit b.toNat r s := by
  obtain rfl | rfl | rfl | rfl | rfl | rfl | rfl | rfl := bitVec3_cases b
  all_goals cases r <;> rfl

end

/-- Settles O32: the 64 forms of each group are one operation, of the bit and the operand in the sub-opcode. -/
theorem bitTestResetSet : Obligations.BitTestResetSet := fun b r s =>
  ⟨⟨encode_bitBlock b r, (exec_bitBlock b r s).trans (testBit_eq b.toNat r s)⟩,
    ⟨encode_resBlock b r, (exec_resBlock b r s).trans (resetBit_eq b.toNat r s)⟩,
    encode_setBlock b r, (exec_setBlock b r s).trans (setBit_eq b.toNat r s)⟩

end

end Sys2Proof.Machine

namespace Sys2Proof.Machine

section

open Claims

/-! ### Control transfer (45_control.md R250 to R261)

The condition, the offset and the target as the statements write them; then the instructions by the operation each
is. -/

theorem cond_eq_holds (cc : Cond) (s : State) : cond cc s = holds cc s := by cases cc <;> rfl

/-- R103, R253: an offset that fits its byte is extended to itself. -/
theorem sext16_offsetByte {e : Int} (h : offsetFits e = true) : sext16 (offsetByte e) = BitVec.ofInt 16 e :=
  congrArg (BitVec.ofInt 16) (signedOffset_offsetByte h)

/-- R261: the vector of a restart is eight times its field. -/
theorem ofNat_toNat_mul_eight (t : BitVec 3) : BitVec.ofNat 16 (t.toNat * 8) = t.setWidth 16 * 8 := by
  rw [BitVec.ofNat_mul, BitVec.ofNat_toNat]; rfl

theorem jump_eq (target : Word) (s : State) : jump target s = .next { s with pc := target } := rfl

theorem jumpIf_eq (cc : Cond) (nn : Word) (s : State) :
    jumpIf cc nn s = .next { s with pc := if holds cc s then nn else s.pc + 3 } := by
  rw [jumpIf, cond_eq_holds]; rfl

theorem jumpRelative_eq {e : Int} (h : offsetFits e = true) (taken : Bool) (s : State) :
    jumpRelative taken e s =
      .next { s with pc := if taken then s.pc + 2 + BitVec.ofInt 16 e else s.pc + 2 } := by
  rw [jumpRelative, sext16_offsetByte h]; rfl

theorem call_eq (taken : Bool) (nn : Word) (s : State) :
    call taken nn s = .next (if taken then pushedAndGone (s.pc + 3) nn s else { s with pc := s.pc + 3 }) := rfl

theorem ret_eq (taken : Bool) (s : State) :
    ret taken s =
      .next (if taken then { s with pc := stackWord s, sp := s.sp + 2 } else { s with pc := s.pc + 1 }) := rfl

theorem restart_eq (t : BitVec 3) (s : State) :
    restart t.toNat s = .next (pushedAndGone (s.pc + 1) (t.setWidth 16 * 8) s) := by
  rw [restart, ofNat_toNat_mul_eight, setPC_push]

/-! The condition field selects the form of each conditional transfer, and the restart field that of RST. -/

section

variable (cc : Cond) (nn : Word) (e : Int) (t : BitVec 3) (s : State)

theorem exec_jpCond : exec (jpCond cc nn) s = jumpIf cc nn s := by cases cc <;> rfl

theorem exec_jrCond : exec (jrCond cc e) s = jumpRelative (holds cc s) e s := by
  rw [← cond_eq_holds]
  cases cc <;> rfl

theorem exec_callCond : exec (callCond cc nn) s = call (holds cc s) nn s := by
  rw [← cond_eq_holds]
  cases cc <;> rfl

theorem exec_retCond : exec (retCond cc) s = ret (holds cc s) s := by
  rw [← cond_eq_holds]
  cases cc <;> rfl

theorem exec_rstBlock : exec (rstBlock t) s = restart t.toNat s := by
  obtain rfl | rfl | rfl | rfl | rfl | rfl | rfl | rfl := bitVec3_cases t
  all_goals rfl

theorem encode_jpCond : encode (jpCond cc nn) = [0b110#3 ++ condCode cc ++ 2#3, lowByte nn, highByte nn] := by
  cases cc <;> rfl

theorem encode_jrCond : encode (jrCond cc e) = [0b001#3 ++ condCode cc ++ 0#3, BitVec.ofInt 8 e] := by
  cases cc <;> rfl

theorem encode_callCond : encode (callCond cc nn) = [0b110#3 ++ condCode cc ++ 4#3, lowByte nn, highByte nn] := by
  cases cc <;> rfl

theorem encode_retCond : encode (retCond cc) = [0b110#3 ++ condCode cc ++ 0#3] := by cases cc <;> rfl

theorem encode_rstBlock : encode (rstBlock t) = [0b11#2 ++ t ++ 7#3] := by revert t; decide

end

/-- Settles O33: each is one of three operations that write `PC` alone, and an offset in range is the signed reading of
its byte. -/
theorem jumps : Obligations.Jumps := by
  intro s cc nn e hlow hhigh
  have hfit : offsetFits e = true := by simp [offsetFits, hlow, hhigh]
  exact ⟨⟨rfl, jump_eq nn s⟩, ⟨encode_jpCond cc nn, (exec_jpCond cc nn s).trans (jumpIf_eq cc nn s)⟩,
    ⟨rfl, jump_eq s.hl s⟩, ⟨rfl, jumpRelative_eq hfit true s⟩,
    encode_jrCond cc e, (exec_jrCond cc e s).trans (jumpRelative_eq hfit (holds cc s) s)⟩

/-- Settles O34: a call or a return is taken when its condition holds, or always; a restart is the push and the jump of a
taken call, from the next address to its vector. -/
theorem callsAndReturns : Obligations.CallsAndReturns := fun s cc nn t =>
  ⟨⟨⟨rfl, call_eq true nn s⟩,
      ⟨encode_callCond cc nn, (exec_callCond cc nn s).trans (call_eq (holds cc s) nn s)⟩,
      encode_rstBlock t, (exec_rstBlock t s).trans (restart_eq t s)⟩,
    ⟨rfl, ret_eq true s⟩, encode_retCond cc, (exec_retCond cc s).trans (ret_eq (holds cc s) s)⟩

end

end Sys2Proof.Machine

namespace Sys2Proof.Machine

/-! ### What an instruction does to the control state (10_state.md R28 to R32, R41; 60_exceptions.md R305, R346) -/

/-- The control state of the core: `IME`, `ime_delay`, `halted`, the step count, the frame wait and the output trace. -/
def controlState (s : State) : Bool × ImeDelay × Bool × Nat × Bool × List Event :=
  (s.ime, s.imeDelay, s.halted, s.instrCount, s.frameHold, s.events)

section

variable {s t u : State}

theorem controlState_of_next (h : (.next u : Result) = .next t) (hu : controlState u = controlState s) :
    controlState t = controlState s :=
  of_next (P := (controlState · = controlState s)) h hu

/-! The operations that can store to memory. -/

theorem load8_controlState {dst src : Operand8} (h : load8 dst src s = .next t) : controlState t = controlState s := by
  cases h; simp [controlState]
theorem loadImm8_controlState {dst : Operand8} {n : Byte} (h : loadImm8 dst n s = .next t) :
    controlState t = controlState s := by
  cases h; simp [controlState]
theorem increment8_controlState {dst : Operand8} (h : increment8 dst s = .next t) :
    controlState t = controlState s := by
  cases h; simp [controlState]
theorem decrement8_controlState {dst : Operand8} (h : decrement8 dst s = .next t) :
    controlState t = controlState s := by
  cases h; simp [controlState]
theorem rotateOperand_controlState {op : RotOp} {r : Operand8} (h : rotateOperand op r s = .next t) :
    controlState t = controlState s := by
  cases h; simp [controlState]
theorem resetBit_controlState {b : Nat} {r : Operand8} (h : resetBit b r s = .next t) :
    controlState t = controlState s := by
  cases h; simp [controlState]
theorem setBit_controlState {b : Nat} {r : Operand8} (h : setBit b r s = .next t) :
    controlState t = controlState s := by
  cases h; simp [controlState]
theorem storeA_controlState {length : Nat} {addr : Word} (h : storeA length addr s = .next t) :
    controlState t = controlState s := by
  cases h; simp [controlState]
theorem storeAStep_controlState {delta : Word} (h : storeAStep delta s = .next t) :
    controlState t = controlState s := by
  cases h; simp [controlState]
theorem storeSP_controlState {nn : Word} (h : storeSP nn s = .next t) : controlState t = controlState s := by
  cases h; simp [controlState, busWrite16]
theorem pushRegister_controlState {p : PairAF} (h : pushRegister p s = .next t) :
    controlState t = controlState s := by
  cases h; simp [controlState]
theorem restart_controlState {k : Nat} (h : restart k s = .next t) : controlState t = controlState s := by
  cases h; simp [controlState]
theorem call_controlState {taken : Bool} {nn : Word} (h : call taken nn s = .next t) :
    controlState t = controlState s := by
  cases h; cases taken <;> simp [controlState]

/-! The returns, `POP` and `ADD SP,e` store nothing. -/

theorem ret_controlState {taken : Bool} (h : ret taken s = .next t) : controlState t = controlState s := by
  cases h; cases taken <;> simp [controlState]
theorem popRegister_controlState {p : PairAF} (h : popRegister p s = .next t) : controlState t = controlState s := by
  cases h; simp [controlState]
theorem addSPOffset_controlState {e : Int} (h : addSPOffset e s = .next t) : controlState t = controlState s := by
  cases h; simp [controlState]

end

/-- Of the control state an instruction changes at most its own part: `DI`, `EI` and `RETI` the interrupt enable, `HALT`
the halt, an unknown opcode the output trace. -/
structure KeepsControl (i : Instr) (s t : State) : Prop where
  count : t.instrCount = s.instrCount
  wait : t.frameHold = s.frameHold
  enable : Claims.changesEnable i = false → t.ime = s.ime ∧ t.imeDelay = s.imeDelay
  halt : i ≠ .halt → t.halted = s.halted
  events : Claims.unknownOpcodes.contains ((encode i).headD 0) = false → t.events = s.events

namespace KeepsControl

variable {i : Instr} {s t : State}

theorem of_controlState_eq (h : controlState t = controlState s) : KeepsControl i s t := by
  simp only [controlState, Prod.mk.injEq] at h
  obtain ⟨hime, hdelay, hhalted, hcount, hwait, hevents⟩ := h
  exact ⟨hcount, hwait, fun _ => ⟨hime, hdelay⟩, fun _ => hhalted, fun _ => hevents⟩

theorem of_unknownOpcode {opcode : Byte} (hi : Claims.unknownOpcodes.contains ((encode i).headD 0) = true)
    (h : unknownOpcode opcode s = .next t) : KeepsControl i s t := by
  cases h
  exact ⟨by simp, by simp, fun _ => by simp, fun _ => by simp, fun hn => absurd (hi.symm.trans hn) (by decide)⟩

end KeepsControl

/-- `DI`, `EI`, `RETI`, `HALT` and the unknown opcodes change their own part; what stores to memory keeps the control
state by the rule of its operation, and what only writes registers keeps it outright. -/
theorem exec_keepsControl {i : Instr} {s t : State} (h : exec i s = .next t) : KeepsControl i s t := by
  cases i
  case di | ei =>
    cases h
    exact ⟨rfl, rfl, nofun, fun _ => rfl, fun _ => rfl⟩
  case reti =>
    cases h
    exact ⟨by simp, by simp, nofun, fun _ => by simp, fun _ => by simp⟩
  case halt =>
    cases h
    exact ⟨rfl, rfl, fun _ => ⟨rfl, rfl⟩, fun hn => absurd rfl hn, fun _ => rfl⟩
  case unknownD3 | unknownDB | unknownDD | unknownE3 | unknownE4 | unknownEB | unknownEC | unknownED | unknownF4 |
      unknownFC | unknownFD =>
    exact .of_unknownOpcode rfl h
  case ldAtBCA | ldAtDEA | ldhAtNA | ldAtCA | ldAtNnA => exact .of_controlState_eq (storeA_controlState h)
  case ldAtHLIncA | ldAtHLDecA => exact .of_controlState_eq (storeAStep_controlState h)
  case ldAtHLN => exact .of_controlState_eq (loadImm8_controlState h)
  case ldAtHLB | ldAtHLC | ldAtHLD | ldAtHLE | ldAtHLH | ldAtHLL | ldAtHLA =>
    exact .of_controlState_eq (load8_controlState h)
  case incAtHL => exact .of_controlState_eq (increment8_controlState h)
  case decAtHL => exact .of_controlState_eq (decrement8_controlState h)
  case rlcAtHL | rrcAtHL | rlAtHL | rrAtHL | slaAtHL | sraAtHL | swapAtHL | srlAtHL =>
    exact .of_controlState_eq (rotateOperand_controlState h)
  case res0AtHL | res1AtHL | res2AtHL | res3AtHL | res4AtHL | res5AtHL | res6AtHL | res7AtHL =>
    exact .of_controlState_eq (resetBit_controlState h)
  case set0AtHL | set1AtHL | set2AtHL | set3AtHL | set4AtHL | set5AtHL | set6AtHL | set7AtHL =>
    exact .of_controlState_eq (setBit_controlState h)
  case ldAtNnSP => exact .of_controlState_eq (storeSP_controlState h)
  case pushBC | pushDE | pushHL | pushAF => exact .of_controlState_eq (pushRegister_controlState h)
  case rst00 | rst08 | rst10 | rst18 | rst20 | rst28 | rst30 | rst38 =>
    exact .of_controlState_eq (restart_controlState h)
  case callNZNn | callZNn | callNn | callNCNn | callCNn => exact .of_controlState_eq (call_controlState h)
  case retNZ | retZ | ret | retNC | retC => exact .of_controlState_eq (ret_controlState h)
  case popBC | popDE | popHL | popAF => exact .of_controlState_eq (popRegister_controlState h)
  case addSPE => exact .of_controlState_eq (addSPOffset_controlState h)
  all_goals exact .of_controlState_eq (controlState_of_next h rfl)

/-- Settles O41: the control state is kept instruction by instruction but for each one's own part of it, and the host's
settings by whatever is made of register updates, flag writes and bus writes. -/
theorem instructionsKeepControlState : Obligations.InstructionsKeepControlState := by
  intro i s t h
  obtain ⟨hcount, hwait, henable, hhalt, hevents⟩ := exec_keepsControl h
  have hset : hostSettings t = hostSettings s := (hostSettings_keptByWrites s).exec rfl h
  simp only [hostSettings, Prod.mk.injEq] at hset
  obtain ⟨hspeed, hparams, hrom, hterminate, hcomposed, hinput⟩ := hset
  exact ⟨⟨hcount, hspeed, hcomposed, hwait, hterminate, hparams, hrom, hinput⟩, henable, hhalt, hevents⟩

/-! ### The step count (60_exceptions.md R330; 10_state.md R32; D14) -/

theorem dispatchPhase_instrCount {s u : State} (h : dispatchPhase s = .next u) : u.instrCount = s.instrCount := by
  obtain ⟨-, rfl⟩ | ⟨-, h⟩ := dispatchPhase_cases h
  · rfl
  · exact (exec_keepsControl h).count

@[simp] theorem serviceInterrupt_instrCount (k : IntClass) (s : State) :
    (serviceInterrupt k s).instrCount = s.instrCount := by
  simp [serviceInterrupt]

@[simp] theorem interruptPhase_instrCount (s : State) : (interruptPhase s).instrCount = s.instrCount := by
  obtain h | ⟨k, -, h⟩ := interruptPhase_cases s <;> simp [h]

/-- Of the phases after the dispatch only the scheduler counts, and once (R330 line 1). -/
theorem afterDispatch_instrCount (s : State) : (afterDispatch s).instrCount = s.instrCount + 1 := by
  simp [afterDispatch, persistencePhase, schedulerPhase]

/-- The core is held exactly where a supplied display's frame has ended and is not composed (R338; D21). -/
theorem held_eq_true_iff {s : State} :
    held s = true ↔ s.frameHold = true ∧ s.params.display = .supplied ∧ s.frameComposed = false := by
  cases h : s.params.display with
  | reference => simp [held_reference h]
  | supplied => simp [held_supplied h]

theorem held_eq_false_iff {s : State} :
    held s = false ↔ s.frameHold = false ∨ s.params.display = .reference ∨ s.frameComposed = true := by
  cases h : s.params.display with
  | reference => simp [held_reference h]
  | supplied => cases hf : s.frameHold <;> simp [held_supplied h, hf]

theorem step_instrCount {s t : State} (h : step s = .next t) :
    t.instrCount = if held s then s.instrCount else s.instrCount + 1 := by
  obtain ⟨hh, rfl⟩ | ⟨hh, u, hu, rfl⟩ := step_cases h
  · simp [hh]
  · simp [hh, afterDispatch_instrCount, dispatchPhase_instrCount hu]

/-- Settles O56: the two clauses are the step that is not held and the step that is. -/
theorem everyStepCountsOne : Obligations.EveryStepCountsOne := by
  intro s t h
  rw [← held_eq_false_iff, ← held_eq_true_iff, step_instrCount h]
  exact ⟨fun hh => if_neg (by simp [hh]), fun hh => if_pos hh⟩

end Sys2Proof.Machine

namespace Sys2Proof.Machine

section

open Claims

/-! ### SP plus a signed offset (41_load16_stack.md R163, 43_alu16.md R213; D23) -/

/-- Line 1 of R163 and R213: the carry out of bit 3 is the carry into bit 4. -/
theorem halfSP_eq_carry (sp : Word) (n : Byte) : halfSP sp n = BitVec.carry 4 (lowByte sp) n false := rfl

/-- Line 2 of R163 and R213: the carry out of bit 7 is the carry into bit 8. -/
theorem carrySP_eq_carry (sp : Word) (n : Byte) : carrySP sp n = BitVec.carry 8 (lowByte sp) n false := by
  rw [BitVec.carry, Nat.mod_eq_of_lt (lowByte sp).isLt, Nat.mod_eq_of_lt n.isLt]; rfl

/-- The flags that the two forms share, for the byte `n` of the offset. -/
def offsetFlags (sp : Word) (n : Byte) : Byte :=
  flagByte false false (BitVec.carry 4 (lowByte sp) n false) (BitVec.carry 8 (lowByte sp) n false)

theorem setFlags_offset (sp : Word) (n : Byte) (s : State) :
    setFlags (some false) (some false) (some (halfSP sp n)) (some (carrySP sp n)) s =
      { s with f := offsetFlags sp n } := by
  rw [setFlags_eq, halfSP_eq_carry, carrySP_eq_carry]; rfl

theorem loadHLFromSPOffset_eq {e : Int} (h : offsetFits e = true) (s : State) :
    loadHLFromSPOffset e s =
      .next { setHL (s.sp + BitVec.ofInt 16 e) s with f := offsetFlags s.sp (offsetByte e), pc := s.pc + 2 } := by
  rw [loadHLFromSPOffset, setFlags_offset, sext16_offsetByte h]; rfl

theorem addSPOffset_eq {e : Int} (h : offsetFits e = true) (s : State) :
    addSPOffset e s =
      .next { s with sp := s.sp + BitVec.ofInt 16 e, f := offsetFlags s.sp (offsetByte e), pc := s.pc + 2 } := by
  rw [addSPOffset, setFlags_offset, sext16_offsetByte h]; rfl

/-- Settles O20: both forms add the same word and write the same flags; an offset in range is the signed reading of its
byte. -/
theorem stackPointerOffset : Obligations.StackPointerOffset := by
  intro s e hlow hhigh
  have hfit : offsetFits e = true := by simp [offsetFits, hlow, hhigh]
  exact ⟨⟨rfl, loadHLFromSPOffset_eq hfit s⟩, rfl, addSPOffset_eq hfit s⟩

/-! ### DAA (42_alu8.md R197; D28)

A theorem that settles an obligation stands in `Settled` where a function of the model has its name. -/

/-- The two halves of the correction share no bit: where each is due, they add up. -/
theorem correction_or_eq_add (low high : Bool) :
    ((if low then 0x06 else 0) ||| (if high then 0x60 else 0) : Byte) =
      (if low then 0x06 else 0x00) + (if high then 0x60 else 0x00) := by
  revert low high; decide

/-- After a subtraction (`n`) the value of `A` does not count; after an addition it does (R197 lines 1 to 8). -/
theorem daaCorrection_eq (a : Byte) (n h c : Bool) :
    daaCorrection a n h c =
      ((if h || (!n && decide (a.toNat % 16 > 9)) then 0x06 else 0x00) +
          (if c || (!n && decide (a.toNat > 0x99)) then 0x60 else 0x00),
        c || (!n && decide (a.toNat > 0x99))) := by
  rw [← correction_or_eq_add]
  cases n
  · rfl
  · simp [daaCorrection]

theorem decimalAdjust_eq (s : State) :
    let k := daaCorrection s.a (flagN s) (flagH s) (flagC s)
    let res := if flagN s then s.a - k.1 else s.a + k.1
    decimalAdjust s =
      .next { s with a := res, f := flagByte (decide (res = 0)) (flagN s) false k.2, pc := s.pc + 1 } := by
  intro k res
  rw [decimalAdjust, setFlags_eq]; rfl

/-- Settles O27: the correction the statement adds up is the one of the table. -/
theorem Settled.decimalAdjust : Obligations.DecimalAdjust := by
  intro s
  have h := decimalAdjust_eq s
  rw [daaCorrection_eq] at h
  exact ⟨rfl, h⟩

/-! ### RETI, NOP and STOP (45_control.md R260; 46_system.md R270, R271; D5, D7) -/

theorem returnFromInterrupt_eq (s : State) :
    returnFromInterrupt s =
      if s.params.retiDelayed then { s with pc := stackWord s, sp := s.sp + 2, imeDelay := .armed }
      else { s with pc := stackWord s, sp := s.sp + 2, ime := true, imeDelay := .inactive } := by
  unfold returnFromInterrupt
  cases s.params.retiDelayed <;> rfl

/-- Settles O35: the return of the model, for both values of `RETI_DELAYED`. -/
theorem Settled.returnFromInterrupt : Obligations.ReturnFromInterrupt := fun s =>
  ⟨rfl, congrArg Host.Outcome.next (returnFromInterrupt_eq s)⟩

theorem noOperation_eq (length : Nat) (s : State) :
    noOperation length s = .next { s with pc := s.pc + BitVec.ofNat 16 length } := rfl

/-- Settles O36: both are `noOperation`, of their own length. -/
theorem nopAndStop : Obligations.NopAndStop := fun s _ => ⟨⟨rfl, noOperation_eq 1 s⟩, rfl, noOperation_eq 2 s⟩

end

end Sys2Proof.Machine

namespace Sys2Proof.Machine

section

open Claims

/-! ### The classes and their bits (10_state.md R39; 60_exceptions.md R308, R311; D10) -/

theorem IntClass.mask_eq_twoPow (k : IntClass) : k.mask = BitVec.twoPow 8 k.bit := rfl

theorem IntClass.bit_lt (k : IntClass) : k.bit < 5 := by cases k <;> decide

theorem IntClass.exists_bit_eq {n : Nat} (h : n < 5) : ∃ k : IntClass, k.bit = n :=
  match n, h with
  | 0, _ => ⟨.verticalBlank, rfl⟩
  | 1, _ => ⟨.displayStatus, rfl⟩
  | 2, _ => ⟨.timer, rfl⟩
  | 3, _ => ⟨.serial, rfl⟩
  | 4, _ => ⟨.input, rfl⟩

theorem IntClass.mask_getLsbD (k : IntClass) (j : Nat) : k.mask.getLsbD j = decide (j = k.bit) := by
  have hk : k.bit < 8 := Nat.lt_trans k.bit_lt (by decide)
  simp [mask_eq_twoPow, BitVec.getLsbD_twoPow, hk, eq_comm]

theorem IntClass.and_mask_ne_zero_iff {b : Byte} {k : IntClass} : b &&& k.mask ≠ 0 ↔ b.getLsbD k.bit = true := by
  have hm : k.mask ≠ 0 := by cases k <;> decide
  rw [mask_eq_twoPow] at hm ⊢
  rw [BitVec.and_twoPow]
  cases b.getLsbD k.bit
  · simp
  · exact ⟨fun _ => rfl, fun _ => hm⟩

theorem triggerInterruptIfEnabled_of_enabled {k : IntClass} {s : State} (h : s.ieReg.getLsbD k.bit = true) :
    triggerInterruptIfEnabled k s = triggerInterrupt k s := by
  rw [triggerInterruptIfEnabled, if_pos (IntClass.and_mask_ne_zero_iff.2 h)]; rfl

theorem triggerInterruptIfEnabled_of_not_enabled {k : IntClass} {s : State} (h : s.ieReg.getLsbD k.bit = false) :
    triggerInterruptIfEnabled k s = s := by
  rw [triggerInterruptIfEnabled, if_neg (fun hn => by simp [IntClass.and_mask_ne_zero_iff.1 hn] at h)]

/-- Settles O54: a class is enabled where the enable byte meets its mask, which is its one bit. -/
theorem raisingInterrupts : Obligations.RaisingInterrupts :=
  ⟨⟨rfl, rfl, rfl, rfl, rfl⟩, ⟨rfl, rfl, rfl, rfl, rfl⟩, fun _ _ =>
    ⟨rfl, triggerInterruptIfEnabled_of_enabled, triggerInterruptIfEnabled_of_not_enabled⟩⟩

/-- R309, R310: the pending classes are the bits below 5 set in IF and IE (D11). -/
theorem pending_getLsbD (s : State) (j : Nat) :
    (pending s).getLsbD j = ((s.ifReg &&& s.ieReg).getLsbD j && decide (j < 5)) := by
  have hm : (0x1F : Byte) = (BitVec.allOnes 5).setWidth 8 := by decide
  have hj : (decide (j < 8) && decide (j < 5)) = decide (j < 5) := by
    rw [← Bool.decide_and]
    exact decide_eq_decide.2 (by omega)
  rw [pending, BitVec.getLsbD_and, hm, BitVec.getLsbD_setWidth, BitVec.getLsbD_allOnes, hj]

/-- R311: the class whose bit is the lowest set is the first in priority order. -/
theorem firstClass_eq_some {p : Byte} {k : IntClass} (h : p.getLsbD k.bit = true)
    (hlow : ∀ j < k.bit, p.getLsbD j = false) : firstClass p = some k := by
  cases k
  all_goals
    simp only [IntClass.bit] at h hlow
    simp [-BitVec.getLsbD_eq_getElem, firstClass, h, hlow]

/-- Where a class is pending, one is the first. -/
theorem exists_firstClass {s : State} (h : pending s ≠ 0) : ∃ k, firstClass (pending s) = some k := by
  have hp : ∃ n, (pending s).getLsbD n = true := by
    by_contra hn
    exact h (BitVec.eq_of_getLsbD_eq fun j _ =>
      (Bool.eq_false_iff.2 fun hj => hn ⟨j, hj⟩).trans BitVec.getLsbD_zero.symm)
  have hbit := Nat.find_spec hp
  have hlt : Nat.find hp < 5 := by
    rw [pending_getLsbD, Bool.and_eq_true, decide_eq_true_iff] at hbit
    exact hbit.2
  obtain ⟨k, hk⟩ := IntClass.exists_bit_eq hlt
  exact ⟨k, firstClass_eq_some (hk ▸ hbit) fun j hj => Bool.eq_false_iff.2 (Nat.find_min hp (hk ▸ hj))⟩

/-! ### Phase C (60_exceptions.md R309 to R312; D6, D11) -/

theorem wakeUp_of_pending {s : State} (h : pending s ≠ 0) : wakeUp s = { s with halted := false } := by
  rw [wakeUp, decide_eq_false h, Bool.and_false]

theorem interruptPhase_of_not_ime {s : State} (h : s.ime = false) : interruptPhase s = wakeUp s := by
  simp [interruptPhase, serviceIfDue, h]

theorem interruptPhase_of_firstClass {s : State} {k : IntClass} (hime : s.ime = true)
    (hk : firstClass (pending s) = some k) : interruptPhase s = serviceInterrupt k { s with halted := false } := by
  have hp : pending s ≠ 0 := by
    intro h
    rw [h] at hk
    cases hk
  rw [← wakeUp_of_pending hp]
  have hw : firstClass (pending (wakeUp s)) = some k := hk
  simp [interruptPhase, serviceIfDue, hime, hw]

/-- Settles O52: neither without `IME` nor with no enabled class pending is one serviced, and the wake-up is left. -/
theorem wakeUpWithoutService : Obligations.WakeUpWithoutService := by
  rintro s (hime | hp)
  · exact interruptPhase_of_not_ime hime
  · exact interruptPhase_of_none_pending hp

/-- Settles O53: the lowest bit set is the bit of a class, the first in priority order. -/
theorem interruptService : Obligations.InterruptService := by
  intro s n hime hn hbit hlow
  obtain ⟨k, rfl⟩ := IntClass.exists_bit_eq hn
  have hk : firstClass (pending s) = some k :=
    firstClass_eq_some (by rw [pending_getLsbD, hbit, decide_eq_true hn]; rfl) fun j hj => by
      rw [pending_getLsbD, hlow j hj, Bool.false_and]
  exact interruptPhase_of_firstClass hime hk

/-! ### HALT, DI and EI (46_system.md R272 to R274; 60_exceptions.md R303, R306; D3, D4, D6) -/

@[simp] theorem serviceInterrupt_halted (k : IntClass) (s : State) : (serviceInterrupt k s).halted = s.halted := by
  simp [serviceInterrupt]

/-- R309: whether a class is serviced or not, the halt ends where one is pending. -/
theorem interruptPhase_halted (s : State) : (interruptPhase s).halted = (s.halted && decide (pending s = 0)) := by
  obtain h | ⟨k, -, h⟩ := interruptPhase_cases s <;> simp [h]

theorem haltCore_eq (s : State) : haltCore s = .next { s with halted := true, pc := s.pc + 1 } := rfl

theorem disableInterrupts_eq (s : State) :
    disableInterrupts s = .next { s with ime := false, imeDelay := .inactive, pc := s.pc + 1 } := rfl

theorem enableInterrupts_eq (s : State) :
    enableInterrupts s = .next { s with imeDelay := .armed, pc := s.pc + 1 } := rfl

/-- Settles O37: a halted core dispatches nothing, so its step is the phases after the dispatch. -/
theorem haltIdlesUntilWoken : Obligations.HaltIdlesUntilWoken := by
  refine fun s => ⟨⟨rfl, haltCore_eq s⟩, fun hhalted hfree => ?_, interruptPhase_halted s⟩
  refine step_of_dispatch (held_of_not_frameHold hfree) ?_
  rw [release_of_not_frameHold hfree, dispatchPhase_of_halted hhalted]

theorem countdown_of_armed {s : State} (h : s.imeDelay = .armed) : countdown s = { s with imeDelay := .expiring } := by
  simp [countdown, h, ImeDelay.countdown]

theorem countdown_of_expiring {s : State} (h : s.imeDelay = .expiring) :
    countdown s = { s with ime := true, imeDelay := .inactive } := by
  simp [countdown, h, ImeDelay.countdown]

theorem countdown_of_inactive {s : State} (h : s.imeDelay = .inactive) : countdown s = s := by
  obtain ⟨⟩ := s
  subst h
  rfl

/-- Settles O51: the three values of the delay. -/
theorem Settled.countdown : Obligations.Countdown := fun _ =>
  ⟨countdown_of_armed, countdown_of_expiring, countdown_of_inactive⟩

/-- Settles O38: `EI` arms the delay, the first countdown makes it expire and the second sets `IME`. -/
theorem disableAndEnable : Obligations.DisableAndEnable := fun s =>
  have hfirst : countdown { s with imeDelay := .armed } = { s with imeDelay := .expiring } := countdown_of_armed rfl
  ⟨⟨rfl, disableInterrupts_eq s⟩, ⟨rfl, enableInterrupts_eq s⟩, hfirst, by rw [hfirst, countdown_of_expiring rfl]⟩

end

end Sys2Proof.Machine

namespace Sys2Proof.Machine

section

open Claims

/-! ### The EI delay (60_exceptions.md R307; D3, D4) -/

theorem step_of_exec {s u : State} (hrun : s.halted = false) (hfree : s.frameHold = false)
    (hu : exec (fetchInstr s) s = .next u) : step s = .next (afterDispatch u) := by
  refine step_of_dispatch (held_of_not_frameHold hfree) ?_
  rw [release_of_not_frameHold hfree, dispatchPhase_of_running hrun, hu]

/-- `IME`, its delay, the halt, `SP` and `PC`. -/
def interruptControl (s : State) : Bool × ImeDelay × Bool × Word × Word :=
  (s.ime, s.imeDelay, s.halted, s.sp, s.pc)

/-- The cartridge hook and the scheduler leave them as the interrupts did. -/
theorem interruptControl_afterDispatch (s : State) :
    interruptControl (afterDispatch s) = interruptControl (interruptPhase (countdown s)) := by
  simp [interruptControl, afterDispatch, persistencePhase, schedulerPhase]

theorem interruptControl_serviceInterrupt (k : IntClass) (s : State) :
    interruptControl (serviceInterrupt k s) = (false, s.imeDelay, s.halted, s.sp - 2, k.vector) := by
  simp [interruptControl, serviceInterrupt]

/-- An instruction that arms the delay with `IME` clear: nothing is serviced at its boundary. -/
theorem afterDispatch_of_armed {u : State} (hdelay : u.imeDelay = .armed) (hime : u.ime = false) :
    interruptControl (afterDispatch u) =
      (false, .expiring, u.halted && decide (pending u = 0), u.sp, u.pc) := by
  have hime' : (countdown u).ime = false := by simp [hdelay, hime]
  have hp : pending (countdown u) = pending u := rfl
  rw [interruptControl_afterDispatch, interruptPhase_of_not_ime hime']
  simp [interruptControl, hdelay, hime, hp, ImeDelay.countdown]

/-- An instruction that leaves the delay expiring: an enabled pending class is serviced at its boundary. -/
theorem afterDispatch_of_expiring {u : State} (hdelay : u.imeDelay = .expiring) (hp : pending u ≠ 0) :
    ∃ k : IntClass, interruptControl (afterDispatch u) = (false, .inactive, false, u.sp - 2, k.vector) := by
  obtain ⟨k, hk⟩ := exists_firstClass hp
  have hphase : interruptPhase (countdown u) =
      serviceInterrupt k { u with ime := true, imeDelay := .inactive, halted := false } := by
    rw [countdown_of_expiring hdelay]
    exact interruptPhase_of_firstClass rfl hk
  exact ⟨k, by rw [interruptControl_afterDispatch, hphase, interruptControl_serviceInterrupt]⟩

/-- Settles O55: at the boundary of `EI` the delay only becomes expiring; at the next instruction's, which left it so, it
sets `IME` before the interrupts are tested. -/
theorem enableDelay : Obligations.EnableDelay := by
  constructor
  · intro s hrun hfree hime hei
    have hu : exec (fetchInstr s) s = .next { s with imeDelay := .armed, pc := s.pc + 1 } := by
      rw [hei]; exact enableInterrupts_eq s
    have hafter := afterDispatch_of_armed (u := { s with imeDelay := .armed, pc := s.pc + 1 }) rfl hime
    simp only [interruptControl, Prod.mk.injEq] at hafter
    obtain ⟨hime', hdelay, -, hsp, hpc⟩ := hafter
    exact ⟨_, step_of_exec hrun hfree hu, hime', hdelay, hpc, hsp⟩
  · intro s u hrun hfree hdelay hother hu hp
    obtain ⟨-, hkept⟩ := (exec_keepsControl hu).enable hother
    obtain ⟨k, hafter⟩ := afterDispatch_of_expiring (hkept.trans hdelay) hp
    simp only [interruptControl, Prod.mk.injEq] at hafter
    obtain ⟨hime, hdelay', hhalted, hsp, hpc⟩ := hafter
    exact ⟨_, step_of_exec hrun hfree hu, hime, hdelay', hhalted, hsp, k.bit, k.bit_lt, hpc⟩

/-! ### The cadences (60_exceptions.md R330; 10_state.md R33, R34; D14) -/

theorem effective_eq_cadence (n : Nat) (s : State) : effective n s = cadence n s := by
  cases h : s.doubleSpeed <;> simp [effective, cadence, h]

@[simp] theorem fires_countStep (n : Nat) (s : State) : fires n (countStep s) = due n s := by
  rw [fires, effective_eq_cadence]; rfl

@[simp] theorem fires_dividerTick (n : Nat) (s : State) : fires n (dividerTick s) = fires n s := rfl

@[simp] theorem fires_timerTick (n : Nat) (s : State) : fires n (timerTick s) = fires n s := rfl

theorem nTima_timaRate (s : State) : s.params.nTima s.timaRate = timerBase s := by
  obtain h | h | h | h := bitVec2_cases s.timaRate <;> simp [Params.nTima, timerBase, h]

theorem timerFires_dividerTick_countStep (s : State) : timerFires (dividerTick (countStep s)) = timerDue s := by
  simp [timerFires, timerDue, nTima_timaRate]

/-! ### What the timer and the scanline tick write (60_exceptions.md R332 to R337) -/

theorem timerTick_tima (s : State) :
    (timerTick s).tima = if timerFires s then (if s.tima = 0xFF then s.tma else s.tima + 1) else s.tima := rfl

theorem timerTick_ifReg (s : State) :
    (timerTick s).ifReg =
      s.ifReg ||| (if timerFires s && decide (s.tima = 0xFF) && s.ieReg.getLsbD 2 then IntClass.timer.mask else 0) := by
  unfold timerTick
  cases timerFires s && decide (s.tima = 0xFF)
  · simp
  cases he : s.ieReg.getLsbD 2
  · simp [triggerInterruptIfEnabled_of_not_enabled (k := .timer) he]
  · simp [triggerInterruptIfEnabled_of_enabled (k := .timer) he, triggerInterrupt]

theorem scanlineTick_ly (s : State) :
    (scanlineTick s).ly = if fires s.params.nLine s then BitVec.ofNat 8 (nextLine s) else s.ly := rfl

theorem scanlineTick_ifReg (s : State) :
    (scanlineTick s).ifReg = s.ifReg ||| (if fires s.params.nLine s then scanlineRaises s else 0) := by
  unfold scanlineTick
  cases fires s.params.nLine s <;> simp

theorem scanlineTick_events (s : State) :
    (scanlineTick s).events = s.events ++ (if fires s.params.nLine s then scanlineEvents s else []) := rfl

theorem scanlineTick_frameHold (s : State) :
    (scanlineTick s).frameHold = (!frameReady s && (fires s.params.nLine s && lineWraps s)) := rfl

/-! ### The divider and the timer (60_exceptions.md R331, R332; D12, D27) -/

theorem schedulerPhase_div (s : State) :
    (schedulerPhase s).div = if due s.params.nDiv s then s.div + 1 else s.div := by
  simp [schedulerPhase]

/-- Settles O57: the divider counts where its cadence is due. -/
theorem Settled.dividerTick : Obligations.DividerTick := by
  intro s
  rw [schedulerPhase_div, due, ← effective_eq_cadence, effective]
  simp only [decide_eq_true_iff]

theorem schedulerPhase_tima (s : State) :
    (schedulerPhase s).tima = if timerDue s then (if s.tima = 0xFF then s.tma else s.tima + 1) else s.tima := by
  rw [schedulerPhase, scanlineTick_tima, timerTick_tima, timerFires_dividerTick_countStep]; rfl

/-! ### What the scheduler raises (60_exceptions.md R332, R334, R335; D10) -/

/-- The timer raises its class: it is due, it overflows, and the class is enabled (R332). -/
def timerRaiseDue (s : State) : Bool := timerDue s && decide (s.tima = 0xFF) && s.ieReg.getLsbD 2

theorem schedulerPhase_ifReg (s : State) :
    (schedulerPhase s).ifReg =
      s.ifReg ||| (if timerRaiseDue s then IntClass.timer.mask else 0) |||
        (if due s.params.nLine s then scanlineRaises s else 0) := by
  have hraises : scanlineRaises (timerTick (dividerTick (countStep s))) = scanlineRaises s := rfl
  rw [schedulerPhase, scanlineTick_ifReg, timerTick_ifReg, timerFires_dividerTick_countStep, hraises,
    fires_timerTick, fires_dividerTick, fires_countStep]
  rfl

theorem IntClass.mask_if_getLsbD (k : IntClass) (b : Bool) (j : Nat) :
    (if b then k.mask else 0).getLsbD j = (b && decide (j = k.bit)) := by
  cases b
  · simp
  · exact k.mask_getLsbD j

/-- Bit by bit, IF keeps what is pending and gains what the timer and the scanline raise. -/
theorem schedulerPhase_ifReg_getLsbD (s : State) (j : Nat) :
    (schedulerPhase s).ifReg.getLsbD j =
      (s.ifReg.getLsbD j || (timerRaiseDue s && decide (j = IntClass.timer.bit)) ||
        (due s.params.nLine s && (displayStatusDue s && decide (j = IntClass.displayStatus.bit) ||
          verticalBlankDue s && decide (j = IntClass.verticalBlank.bit)))) := by
  rw [schedulerPhase_ifReg, BitVec.getLsbD_or, BitVec.getLsbD_or, IntClass.mask_if_getLsbD]
  cases due s.params.nLine s
  · simp
  · simp only [if_true, Bool.true_and, scanlineRaises, BitVec.getLsbD_or, IntClass.mask_if_getLsbD]

/-- Settles O58: the timer's bit is no bit of the scanline's classes. -/
theorem Settled.timerTick : Obligations.TimerTick := by
  refine fun s => ⟨schedulerPhase_tima s, ?_⟩
  rw [schedulerPhase_ifReg_getLsbD]
  simp [IntClass.bit, timerRaiseDue]

/-! ### The scanline (60_exceptions.md R333 to R337; D15 to D17) -/

theorem nextLine_eq_enteredLine (s : State) : nextLine s = enteredLine s := by
  simp [nextLine, lineWraps, enteredLine]

theorem verticalBlankDue_eq (s : State) :
    verticalBlankDue s = decide (enteredLine s = s.params.visibleLines) := by
  rw [← nextLine_eq_enteredLine]; rfl

theorem displayStatusDue_eq (s : State) :
    displayStatusDue s =
      (decide (enteredLine s < s.params.visibleLines) &&
        ((s.stat.getLsbD 6 && decide (s.lyc.toNat = enteredLine s)) || s.stat.getLsbD 3)) := by
  rw [← nextLine_eq_enteredLine]; rfl

theorem schedulerPhase_ly (s : State) :
    (schedulerPhase s).ly = if due s.params.nLine s then BitVec.ofNat 8 (enteredLine s) else s.ly := by
  have hline : nextLine (timerTick (dividerTick (countStep s))) = nextLine s := rfl
  simp [schedulerPhase, scanlineTick_ly, hline, nextLine_eq_enteredLine]

theorem schedulerPhase_events (s : State) :
    (schedulerPhase s).events = s.events ++ (if due s.params.nLine s then scanlineEvents s else []) := by
  have hevents : scanlineEvents (timerTick (dividerTick (countStep s))) = scanlineEvents s := rfl
  simp [schedulerPhase, scanlineTick_events, hevents]

/-- The blank lines run from the line entered where that line starts the vertical blank. -/
theorem scanlineEvents_eq (s : State) :
    scanlineEvents s =
      (if s.ly.toNat < s.params.visibleLines then [.notifyScanline s.ly.toNat] else []) ++
        (if enteredLine s = s.params.visibleLines then
          (List.range' (enteredLine s) (s.params.lastLine + 1 - enteredLine s)).map .notifyScanline else []) ++
        (if s.ly.toNat + 1 > s.params.lastLine then [.notifyAudioFrame] else []) := by
  simp only [scanlineEvents, verticalBlankDue_eq, lineWraps, decide_eq_true_iff]
  by_cases h : enteredLine s = s.params.visibleLines
  · rw [if_pos h, if_pos h, h, blankLines]
  · rw [if_neg h, if_neg h]

/-- Settles O59: the scanline's two classes have bits 0 and 1, and neither they nor the timer touch bits 3 to 7. -/
theorem Settled.scanlineTick : Obligations.ScanlineTick := by
  refine fun s => ⟨schedulerPhase_ly s, ?_, ?_, ?_, ?_⟩
  · rw [schedulerPhase_ifReg_getLsbD, verticalBlankDue_eq]
    simp [IntClass.bit]
  · rw [schedulerPhase_ifReg_getLsbD, displayStatusDue_eq]
    simp [IntClass.bit, Bool.and_assoc]
  · refine BitVec.eq_of_getLsbD_eq fun j _ => ?_
    rw [BitVec.getLsbD_extractLsb', BitVec.getLsbD_extractLsb', schedulerPhase_ifReg_getLsbD]
    have hdisplay : 3 + j ≠ 1 := by omega
    have htimer : 3 + j ≠ 2 := by omega
    simp [IntClass.bit, hdisplay, htimer]
  · rw [schedulerPhase_events, scanlineEvents_eq]

/-! ### Entering and leaving the frame wait (60_exceptions.md R338; D18, D21) -/

theorem schedulerPhase_frameHold (s : State) :
    (schedulerPhase s).frameHold =
      (decide (s.params.display = .supplied) && !s.frameComposed && due s.params.nLine s &&
        decide (s.ly.toNat + 1 > s.params.lastLine)) := by
  have hready : (!frameReady s) = (decide (s.params.display = .supplied) && !s.frameComposed) := by
    cases h : s.params.display <;> simp [frameReady, h]
  have hhold : (schedulerPhase s).frameHold = (!frameReady s && (due s.params.nLine s && lineWraps s)) := by
    rw [schedulerPhase, scanlineTick_frameHold, fires_timerTick, fires_dividerTick, fires_countStep]
    rfl
  rw [hhold, hready, Bool.and_assoc, Bool.and_assoc, Bool.and_assoc]
  rfl

/-- Settles O13: a step that is held answers its own state, and one that is not starts by leaving the wait. -/
theorem frameWaitHoldsUntilSignalled : Obligations.FrameWaitHoldsUntilSignalled := by
  refine ⟨fun s hwait hdisplay hready => step_of_held (held_eq_true_iff.2 ⟨hwait, hdisplay, hready⟩),
    fun s _ hready => ?_, schedulerPhase_frameHold⟩
  obtain ⟨u, hu⟩ := dispatchPhase_exists_next (release s)
  rw [step_of_dispatch (held_eq_false_iff.2 (.inr hready)) hu,
    step_of_dispatch (s := { s with frameHold := false }) (held_of_not_frameHold rfl) hu]

end

end Sys2Proof.Machine

namespace Sys2Proof.Machine

section

open Claims

/-! ### The reference I/O handler (20_memory.md R75 to R78; D20) -/

theorem ioGet_referenceIoWrite (o v x : Byte) (s : State) :
    ioGet x (referenceIoWrite o v s) = if x = o then ioStored o v else ioGet x s := by
  split
  · next h => rw [h, ioGet_referenceIoWrite_same]
  · next h => exact ioGet_ioSet_ne _ s h

theorem referenceIoWrite_wramBank (o v : Byte) (s : State) :
    (referenceIoWrite o v s).wramBank =
      if o = 0x70 ∧ s.params.enhanced = true then bankOf v else s.wramBank := by
  rw [ite_and]; rfl

/-- Settles O46: the write is the reference handler's, which stores one byte and sets the timer's settings and the
bank. -/
theorem ioHandler : Obligations.IoHandler := by
  intro s o v x hh
  have hcore := sameCore_ioWrite o v s
  rw [ioWrite_reference o v hh] at hcore ⊢
  exact ⟨ioRead_reference hh x, ioGet_referenceIoWrite o v x s, rfl, rfl, referenceIoWrite_wramBank o v s, hcore,
    rfl, rfl, rfl, rfl, rfl, rfl⟩

/-! ### The reference cartridge and display (20_memory.md R71, R73; D21) -/

/-- An address of the RAM window is outside the ROM window, and its index in the RAM is its distance from the first. -/
theorem cartRam_index {a : Word} (hlo : 0xA000 ≤ a) : ¬ a ≤ 0x7FFF ∧ (a - 0xA000).toNat = a.toNat - 0xA000 := by
  constructor <;> bv_omega

/-- A write to the RAM window is no write to any other byte of the reference cartridge. -/
theorem cartRead_cartWrite_inRam {a x : Word} {s : State} (hr : s.params.cartridge = .reference) (hlo : 0xA000 ≤ a)
    (hx : x ≤ 0x7FFF ∨ 0xA000 ≤ x) (v : Byte) :
    cartRead x (cartWrite a v s) = if x = a then v else cartRead x s := by
  obtain ⟨ha, -⟩ := cartRam_index hlo
  have hr' : (cartWrite a v s).params.cartridge = .reference := hr
  rw [cartRead_reference hr', cartRead_reference hr, cartWrite_inRam v hr ha]
  by_cases hxa : x = a
  · rw [if_pos hxa, hxa, if_neg ha, readCell_memSet_same]
  · rw [if_neg hxa]
    obtain hx | hx := hx
    · rw [if_pos hx, if_pos hx]
    · obtain ⟨hnx, -⟩ := cartRam_index hx
      have hne : (x - 0xA000).toNat ≠ (a - 0xA000).toNat := fun h => hxa (by bv_omega)
      rw [if_neg hnx, if_neg hnx, readCell_memSet_ne _ _ _ hne]

theorem cartPeriodicUpdate_reference {s : State} (h : s.params.cartridge = .reference) : cartPeriodicUpdate s = s := by
  simp [cartPeriodicUpdate, h]

theorem displayRead_displayWrite {o x : Word} {s : State} (h : s.params.display = .reference) (v : Byte) :
    displayRead x (displayWrite o v s) = if x = o then v else displayRead x s := by
  have h' : (displayWrite o v s).params.display = .reference := h
  rw [displayRead_reference h', displayRead_reference h, displayWrite_reference o v h, readCell_memSet]
  simp only [BitVec.toNat_inj]

theorem sameCore_cartWrite (a : Word) (v : Byte) (s : State) : sameCore s (cartWrite a v s) := by
  simp [sameCore]

theorem sameCore_displayWrite (o : Word) (v : Byte) (s : State) : sameCore s (displayWrite o v s) := by
  simp [sameCore]

/-- Settles O47: the image is read only, and the RAM and the display's memory are read back byte by byte. -/
theorem referenceCartridgeAndDisplay : Obligations.ReferenceCartridgeAndDisplay := by
  intro s a x v hc hd
  refine ⟨fun ha => ⟨cartWrite_inRom v hc ha, ?_⟩, fun hlo _ => ⟨?_, ?_⟩, fun hlo _ hxa hx => ?_,
    cartPeriodicUpdate_reference hc, ⟨displayRead_reference hd a, ?_, fun hxa => ?_⟩, sameCore_cartWrite a v s,
    sameCore_displayWrite a v s⟩
  · rw [cartRead_reference hc, if_pos ha]
  · rw [cartRead_cartWrite_inRam hc hlo (.inr hlo), if_pos rfl]
  · obtain ⟨ha, hi⟩ := cartRam_index hlo
    rw [cartRead_reference hc, if_neg ha, hi]
  · rw [cartRead_cartWrite_inRam hc hlo (hx.imp_right And.left), if_neg hxa]
  · rw [displayRead_displayWrite hd, if_pos rfl]
  · rw [displayRead_displayWrite hd, if_neg hxa]

/-! ### The mirror (20_memory.md R66; D19) -/

/-- Settles O48: both accesses are those 0x2000 below, where a read returns the byte just written. -/
theorem mirrorWindow : Obligations.MirrorWindow := by
  intro s a v hlo hhi
  have hr : regionOf a = .mirror := regionOf_eq_iff.2 ⟨hlo, hhi⟩
  have hsame : busRead a (busWrite a v s) = v := busRead_busWrite_same (by omega) (by omega) v s
  exact ⟨busRead_mirror hr s, busWrite_mirror hr v s, by rw [← busRead_mirror hr, hsame],
    by rw [← busWrite_mirror hr, hsame]⟩

/-! ### Reset (10_state.md R45; D22) -/

/-- The ten bytes with a field of their own start at `IO_RESET`, as the unwritten ones do. -/
theorem ioGet_resetWith (p : Params) (rom : Memory) (o : Byte) :
    ioGet o (State.resetWith p rom) = Config.unwritten .io o.toNat := by
  unfold ioGet
  repeat' split
  all_goals
    subst_vars
    rfl

/-- Settles O1: the fields of the reset state as they are written down, and its I/O block byte by byte. -/
theorem resetValues : Obligations.ResetValues := by
  have hpairs : join 0x00 0x13 = 0x0013 ∧ join 0x00 0xD8 = 0x00D8 ∧ join 0x01 0x4D = 0x014D := by decide
  exact fun p rom => ⟨⟨rfl, rfl, rfl, rfl⟩, hpairs, ⟨rfl, rfl, rfl, rfl, rfl, rfl⟩, ⟨rfl, rfl⟩, ioGet_resetWith p rom,
    ⟨rfl, rfl⟩, fun _ => ⟨rfl, rfl⟩⟩

/-! ### Unknown opcodes and written-out words (46_system.md R275, 30_encoding.md R106 to R112; D8) -/

theorem unknownOpcode_eq (op : Byte) (s : State) :
    unknownOpcode op s = .next { s with events := s.events ++ [.unknownOpcode op s.pc], pc := s.pc + 1 } := rfl

/-- Each unknown opcode decodes to an instruction of its own, which is one byte long and answers `unknownOpcode`. -/
theorem decode_of_unknownOpcodes {op : Byte} (h : op ∈ unknownOpcodes) (b1 b2 : Byte) :
    encode (decode op b1 b2) = [op] ∧ ∀ s, exec (decode op b1 b2) s = unknownOpcode op s := by
  simp only [unknownOpcodes, List.mem_cons, List.not_mem_nil, or_false] at h
  obtain rfl | rfl | rfl | rfl | rfl | rfl | rfl | rfl | rfl | rfl | rfl := h
  all_goals exact ⟨rfl, fun _ => rfl⟩

/-- Settles O39: all eleven are one operation, of their own opcode. -/
theorem unknownOpcodes : Obligations.UnknownOpcodes := by
  intro s op b1 b2 h
  obtain ⟨he, hx⟩ := decode_of_unknownOpcodes h b1 b2
  exact ⟨he, (hx s).trans (unknownOpcode_eq op s)⟩

/-- Settles O8: the decoder reads each word by its row of the tables. -/
theorem opcodeWordsDecode : Obligations.OpcodeWordsDecode :=
  ⟨rfl, rfl, rfl, rfl, rfl, rfl, rfl, rfl, rfl, rfl, rfl, rfl, rfl, rfl, rfl, rfl⟩

end

end Sys2Proof.Machine
